-- ==== Sys2Proof/Word.lean ====
section
/-! DEFINITION. The 32-bit word and the 8-bit byte (R7). -/

namespace Sys2Proof

/-- A 32-bit unsigned word; bit 0 is the least significant (R7). -/
abbrev Word := BitVec 32

/-- An 8-bit byte, met only in the wire view of a frame (R50). -/
abbrev Byte := BitVec 8

end Sys2Proof
end

