-- ==== Sys2Proof/Syntax.lean ====
section
/-! DEFINITION. The command set (one constructor per row of the opcode table, R90), the header fields, the ports,
and the shapes of a request: what the master of a port presents (R10, R38 to R41). -/

namespace Sys2Proof

/-- The two ports of the block (R10, R13): the producer port is driven by agent `PROD`, the consumer port by `CONS`. -/
inductive Port where
  | prod
  | cons
deriving DecidableEq, Repr

/-- The sixteen header fields, in the order of their selectors `FSEL` (R85). -/
inductive HdrField where
  | invalid
  | legacy
  | seconds
  | refEpoch
  | frameNo
  | version
  | log2Chans
  | frameLen8
  | complex
  | bpsM1
  | threadId
  | stationId
  | edv0
  | edv1
  | edv2
  | edv3
deriving DecidableEq, Repr

/-- The 120 commands of R90, one constructor per row of the opcode table. No command carries an operand: all data is
in the request lanes (R89), so a constructor has no argument. -/
inductive Instr where
  | hdrDec
  | hdrEnc
  | hdrGetInvalid
  | hdrGetLegacy
  | hdrGetSeconds
  | hdrGetRefEpoch
  | hdrGetFrameNo
  | hdrGetVersion
  | hdrGetLog2Chans
  | hdrGetFrameLen8
  | hdrGetComplex
  | hdrGetBpsM1
  | hdrGetThreadId
  | hdrGetStationId
  | hdrGetEdv0
  | hdrGetEdv1
  | hdrGetEdv2
  | hdrGetEdv3
  | hdrSetInvalid
  | hdrSetLegacy
  | hdrSetSeconds
  | hdrSetRefEpoch
  | hdrSetFrameNo
  | hdrSetVersion
  | hdrSetLog2Chans
  | hdrSetFrameLen8
  | hdrSetComplex
  | hdrSetBpsM1
  | hdrSetThreadId
  | hdrSetStationId
  | hdrSetEdv0
  | hdrSetEdv1
  | hdrSetEdv2
  | hdrSetEdv3
  | pldUnpackR1
  | pldPackR1
  | pldUnpackR2
  | pldPackR2
  | pldUnpackR3
  | pldPackR3
  | pldUnpackR4
  | pldPackR4
  | pldUnpackR6
  | pldPackR6
  | pldUnpackR7
  | pldPackR7
  | pldUnpackR8
  | pldPackR8
  | pldUnpackR11
  | pldPackR11
  | pldUnpackR12
  | pldPackR12
  | pldUnpackR13
  | pldPackR13
  | pldUnpackR14
  | pldPackR14
  | pldUnpackR15
  | pldPackR15
  | pldUnpackR16
  | pldPackR16
  | pldUnpackR17
  | pldPackR17
  | pldUnpackR18
  | pldPackR18
  | pldUnpackR19
  | pldPackR19
  | pldUnpackR20
  | pldPackR20
  | pldUnpackR21
  | pldPackR21
  | pldUnpackR22
  | pldPackR22
  | pldUnpackR23
  | pldPackR23
  | pldUnpackR24
  | pldPackR24
  | pldUnpackR25
  | pldPackR25
  | pldUnpackR26
  | pldPackR26
  | pldUnpackR27
  | pldPackR27
  | pldUnpackR28
  | pldPackR28
  | pldUnpackR29
  | pldPackR29
  | pldUnpackR30
  | pldPackR30
  | pldUnpackR31
  | pldPackR31
  | pldUnpackR32
  | pldPackR32
  | pldUnpackC1
  | pldPackC1
  | pldUnpackC2
  | pldPackC2
  | pldUnpackC3
  | pldPackC3
  | pldUnpackC4
  | pldPackC4
  | pldUnpackC6
  | pldPackC6
  | pldUnpackC7
  | pldPackC7
  | pldUnpackC8
  | pldPackC8
  | pldUnpackC11
  | pldPackC11
  | pldUnpackC12
  | pldPackC12
  | pldUnpackC13
  | pldPackC13
  | pldUnpackC14
  | pldPackC14
  | pldUnpackC15
  | pldPackC15
  | pldUnpackC16
  | pldPackC16
  | rbPush
  | rbPop
deriving DecidableEq, Repr

/-- A header record: one 32-bit lane per field (R38). The first lane is `is_valid`, the complement of the stored bit (R39);
every other lane holds the stored value. -/
structure HdrRecord where
  isValid : Word
  legacy : Word
  seconds : Word
  refEpoch : Word
  frameNo : Word
  version : Word
  log2Chans : Word
  frameLen8 : Word
  complex : Word
  bpsM1 : Word
  threadId : Word
  stationId : Word
  edv0 : Word
  edv1 : Word
  edv2 : Word
  edv3 : Word
deriving DecidableEq, Repr

/-- A header image: the eight words of a header (R40). -/
abbrev Image := Vector Word 8

/-- The data lanes of a request or a response (R10): a header image, a header record, one value, thirty-two real sample
lanes, sixteen in-phase and sixteen quadrature lanes, one payload word, a count, and the words of one ring slot. -/
structure Lanes where
  w : Image
  h : HdrRecord
  v : Word
  s : Vector Word 32
  i : Vector Word 16
  q : Vector Word 16
  pw : Word
  n : Nat
  d : List Word
deriving DecidableEq, Repr

/-- A request: the command word and the operand lanes (R10, R80). -/
structure Request where
  cmd : Word
  lanes : Lanes
deriving DecidableEq, Repr

/-- The record with every lane zero. -/
def HdrRecord.zero : HdrRecord :=
  ⟨0, 0, 0, 0, 0, 0, 0, 0, 0, 0, 0, 0, 0, 0, 0, 0⟩

/-- Every lane zero, with a ring slot of `l` words (R10: a lane no rule mentions is zero in a response). -/
def Lanes.zero (l : Nat) : Lanes :=
  { w := Vector.replicate 8 0, h := HdrRecord.zero, v := 0, s := Vector.replicate 32 0, i := Vector.replicate 16 0,
    q := Vector.replicate 16 0, pw := 0, n := 0, d := List.replicate l 0 }

end Sys2Proof
end

