-- ==== Sys2Proof/Config.lean ====
section
/-! DEFINITION. What an implementation fixes (R4 to R6), and the values the spec leaves free. -/

namespace Sys2Proof

/-- `HDR_LAYOUT` (R6, R110): the bit position of each of the twelve bit fields of words 0 to 3 within its word. The
word and the width of a field are fixed by R38; an EDV field is a whole word, so its position can only be 0. -/
structure HdrLayout where
  invalid : Nat
  legacy : Nat
  seconds : Nat
  refEpoch : Nat
  frameNo : Nat
  version : Nat
  log2Chans : Nat
  frameLen8 : Nat
  complex : Nat
  bpsM1 : Nat
  threadId : Nat
  stationId : Nat
deriving DecidableEq, Repr

/-- The parameters of one block (R4 to R6): `C`, `L`, `HDR_LAYOUT` and `STALE_VIEWS`. Nothing changes them (R25, R26). -/
structure Params where
  capacity : Nat
  slotWords : Nat
  layout : HdrLayout
  staleViews : Bool
deriving DecidableEq, Repr

/-- What a word of slot memory holds that no push has written since the latest reset (R373: any value). A free value,
by the number of the reset and the word address (log 5). -/
opaque Config.slotPowerOn (resets addr : Nat) : Word

/-- Which agent moves when the schedule has ended and transactions are in flight on both ports: the producer or the consumer
(R13: any). A free value, by the number of such turns so far (log 22). -/
opaque Config.restProducer (rested : Nat) : Bool

/-- The free number of a turn taken when the schedule has ended (R62: any). A free value, by the number of such turns so far
(log 22). -/
opaque Config.restDraw (rested : Nat) : Nat

end Sys2Proof
end

