-- ==== Sys2Proof/Machine/Layout.lean ====
section
/-! DEFINITION. The header layout table of R110: word, width and default position of each field; the default
parameters. -/

namespace Sys2Proof

/-- The sixteen fields in the order of `FSEL` (R85). -/
def HdrField.all : List HdrField :=
  [.invalid, .legacy, .seconds, .refEpoch, .frameNo, .version, .log2Chans, .frameLen8, .complex, .bpsM1, .threadId,
   .stationId, .edv0, .edv1, .edv2, .edv3]

/-- The header word `wd` that holds a field (R38, R110). -/
def HdrField.word : HdrField → Fin 8
  | .invalid | .legacy | .seconds => 0
  | .refEpoch | .frameNo => 1
  | .version | .log2Chans | .frameLen8 => 2
  | .complex | .bpsM1 | .threadId | .stationId => 3
  | .edv0 => 4
  | .edv1 => 5
  | .edv2 => 6
  | .edv3 => 7

/-- The width `wi` of a field in bits (R38, R110). -/
def HdrField.width : HdrField → Nat
  | .invalid => 1
  | .legacy => 1
  | .seconds => 30
  | .refEpoch => 6
  | .frameNo => 24
  | .version => 3
  | .log2Chans => 5
  | .frameLen8 => 24
  | .complex => 1
  | .bpsM1 => 5
  | .threadId => 10
  | .stationId => 16
  | .edv0 | .edv1 | .edv2 | .edv3 => 32

/-- The position `sh` of a field's least significant bit under a layout (R110). -/
def HdrLayout.shift (lay : HdrLayout) : HdrField → Nat
  | .invalid => lay.invalid
  | .legacy => lay.legacy
  | .seconds => lay.seconds
  | .refEpoch => lay.refEpoch
  | .frameNo => lay.frameNo
  | .version => lay.version
  | .log2Chans => lay.log2Chans
  | .frameLen8 => lay.frameLen8
  | .complex => lay.complex
  | .bpsM1 => lay.bpsM1
  | .threadId => lay.threadId
  | .stationId => lay.stationId
  | .edv0 | .edv1 | .edv2 | .edv3 => 0

/-- The default positions of R110, those of the published VDIF header (log 15). -/
def HdrLayout.vdif : HdrLayout where
  invalid := 31
  legacy := 30
  seconds := 0
  refEpoch := 24
  frameNo := 0
  version := 29
  log2Chans := 24
  frameLen8 := 0
  complex := 31
  bpsM1 := 26
  threadId := 16
  stationId := 0

/-- The block that `State.reset` is: two slots of two words, the default layout, stale views allowed (R6). The spec gives
`C` and `L` no value (DESIGN CHOICE, log 6). -/
def Params.default : Params where
  capacity := 2
  slotWords := 2
  layout := HdrLayout.vdif
  staleViews := true

end Sys2Proof
end

