-- ==== Sys2Proof/WellFormed.lean ====
section
/-! DEFINITION. The checks on what comes from outside: a header layout, the parameters of a block, a request, a header
record. A command has no operand, so every `Instr` is well formed (R89). -/

namespace Sys2Proof

/-- Two fields of one layout share no bit: they are in different words, or one ends where the other begins or earlier. -/
def HdrLayout.disjoint (lay : HdrLayout) (f g : HdrField) : Bool :=
  f.word != g.word || decide (lay.shift f + f.width ≤ lay.shift g) || decide (lay.shift g + g.width ≤ lay.shift f)

/-- A legal layout (R110): every field lies within its word and no two fields of a word overlap. -/
def HdrLayout.wf (lay : HdrLayout) : Bool :=
  HdrField.all.all fun f =>
    decide (lay.shift f + f.width ≤ 32) && HdrField.all.all fun g => f == g || lay.disjoint f g

/-- Legal parameters (R4, R5, D15): at least one slot, at least one word a slot, a legal layout. -/
def Params.wf (p : Params) : Bool :=
  decide (1 ≤ p.capacity) && decide (1 ≤ p.slotWords) && p.layout.wf

/-- A request that can be presented to a block with these parameters: its `D` lanes are exactly `L` words (R302, D16). -/
def Request.wf (p : Params) (r : Request) : Bool :=
  r.lanes.d.length == p.slotWords

/-- The lane of a record that belongs to a field; for the invalid flag it is `is_valid` (R38, R39). -/
def HdrRecord.lane (h : HdrRecord) : HdrField → Word
  | .invalid => h.isValid
  | .legacy => h.legacy
  | .seconds => h.seconds
  | .refEpoch => h.refEpoch
  | .frameNo => h.frameNo
  | .version => h.version
  | .log2Chans => h.log2Chans
  | .frameLen8 => h.frameLen8
  | .complex => h.complex
  | .bpsM1 => h.bpsM1
  | .threadId => h.threadId
  | .stationId => h.stationId
  | .edv0 => h.edv0
  | .edv1 => h.edv1
  | .edv2 => h.edv2
  | .edv3 => h.edv3

/-- A record whose lanes are within their widths (R153). -/
def HdrRecord.inWidth (h : HdrRecord) : Bool :=
  HdrField.all.all fun f => decide ((h.lane f).toNat < 2 ^ f.width)

end Sys2Proof
end

