-- ==== Sys2Proof/Decode.lean ====
section
/-! DEFINITION. The command word (R80 to R98): decoding, total over the 2^32 words, rejecting by name; and the encoder, the
opcode map of R90. -/

namespace Sys2Proof

/-! ## Families of commands -/

/-- `HDR.GET.<F>` (R82, R88). -/
def hdrGetInstr : HdrField → Instr
  | .invalid => .hdrGetInvalid
  | .legacy => .hdrGetLegacy
  | .seconds => .hdrGetSeconds
  | .refEpoch => .hdrGetRefEpoch
  | .frameNo => .hdrGetFrameNo
  | .version => .hdrGetVersion
  | .log2Chans => .hdrGetLog2Chans
  | .frameLen8 => .hdrGetFrameLen8
  | .complex => .hdrGetComplex
  | .bpsM1 => .hdrGetBpsM1
  | .threadId => .hdrGetThreadId
  | .stationId => .hdrGetStationId
  | .edv0 => .hdrGetEdv0
  | .edv1 => .hdrGetEdv1
  | .edv2 => .hdrGetEdv2
  | .edv3 => .hdrGetEdv3

/-- `HDR.SET.<F>` (R82, R88). -/
def hdrSetInstr : HdrField → Instr
  | .invalid => .hdrSetInvalid
  | .legacy => .hdrSetLegacy
  | .seconds => .hdrSetSeconds
  | .refEpoch => .hdrSetRefEpoch
  | .frameNo => .hdrSetFrameNo
  | .version => .hdrSetVersion
  | .log2Chans => .hdrSetLog2Chans
  | .frameLen8 => .hdrSetFrameLen8
  | .complex => .hdrSetComplex
  | .bpsM1 => .hdrSetBpsM1
  | .threadId => .hdrSetThreadId
  | .stationId => .hdrSetStationId
  | .edv0 => .hdrSetEdv0
  | .edv1 => .hdrSetEdv1
  | .edv2 => .hdrSetEdv2
  | .edv3 => .hdrSetEdv3

/-- `PLD.UNPACK.R<b>` for a bit depth `b` (R83, R86); none for a depth that has no real command (R97). -/
def unpackRealInstr : Nat → Option Instr
  | 1 => some .pldUnpackR1
  | 2 => some .pldUnpackR2
  | 3 => some .pldUnpackR3
  | 4 => some .pldUnpackR4
  | 6 => some .pldUnpackR6
  | 7 => some .pldUnpackR7
  | 8 => some .pldUnpackR8
  | 11 => some .pldUnpackR11
  | 12 => some .pldUnpackR12
  | 13 => some .pldUnpackR13
  | 14 => some .pldUnpackR14
  | 15 => some .pldUnpackR15
  | 16 => some .pldUnpackR16
  | 17 => some .pldUnpackR17
  | 18 => some .pldUnpackR18
  | 19 => some .pldUnpackR19
  | 20 => some .pldUnpackR20
  | 21 => some .pldUnpackR21
  | 22 => some .pldUnpackR22
  | 23 => some .pldUnpackR23
  | 24 => some .pldUnpackR24
  | 25 => some .pldUnpackR25
  | 26 => some .pldUnpackR26
  | 27 => some .pldUnpackR27
  | 28 => some .pldUnpackR28
  | 29 => some .pldUnpackR29
  | 30 => some .pldUnpackR30
  | 31 => some .pldUnpackR31
  | 32 => some .pldUnpackR32
  | _ => none

/-- `PLD.PACK.R<b>` for a bit depth `b` (R83, R86); none for a depth that has no real command (R97). -/
def packRealInstr : Nat → Option Instr
  | 1 => some .pldPackR1
  | 2 => some .pldPackR2
  | 3 => some .pldPackR3
  | 4 => some .pldPackR4
  | 6 => some .pldPackR6
  | 7 => some .pldPackR7
  | 8 => some .pldPackR8
  | 11 => some .pldPackR11
  | 12 => some .pldPackR12
  | 13 => some .pldPackR13
  | 14 => some .pldPackR14
  | 15 => some .pldPackR15
  | 16 => some .pldPackR16
  | 17 => some .pldPackR17
  | 18 => some .pldPackR18
  | 19 => some .pldPackR19
  | 20 => some .pldPackR20
  | 21 => some .pldPackR21
  | 22 => some .pldPackR22
  | 23 => some .pldPackR23
  | 24 => some .pldPackR24
  | 25 => some .pldPackR25
  | 26 => some .pldPackR26
  | 27 => some .pldPackR27
  | 28 => some .pldPackR28
  | 29 => some .pldPackR29
  | 30 => some .pldPackR30
  | 31 => some .pldPackR31
  | 32 => some .pldPackR32
  | _ => none

/-- `PLD.UNPACK.C<b>` for a bit depth `b` (R83, R86); none for a depth that has no complex command (R97, R98). -/
def unpackComplexInstr : Nat → Option Instr
  | 1 => some .pldUnpackC1
  | 2 => some .pldUnpackC2
  | 3 => some .pldUnpackC3
  | 4 => some .pldUnpackC4
  | 6 => some .pldUnpackC6
  | 7 => some .pldUnpackC7
  | 8 => some .pldUnpackC8
  | 11 => some .pldUnpackC11
  | 12 => some .pldUnpackC12
  | 13 => some .pldUnpackC13
  | 14 => some .pldUnpackC14
  | 15 => some .pldUnpackC15
  | 16 => some .pldUnpackC16
  | _ => none

/-- `PLD.PACK.C<b>` for a bit depth `b` (R83, R86); none for a depth that has no complex command (R97, R98). -/
def packComplexInstr : Nat → Option Instr
  | 1 => some .pldPackC1
  | 2 => some .pldPackC2
  | 3 => some .pldPackC3
  | 4 => some .pldPackC4
  | 6 => some .pldPackC6
  | 7 => some .pldPackC7
  | 8 => some .pldPackC8
  | 11 => some .pldPackC11
  | 12 => some .pldPackC12
  | 13 => some .pldPackC13
  | 14 => some .pldPackC14
  | 15 => some .pldPackC15
  | 16 => some .pldPackC16
  | _ => none

/-! ## Decoding -/

/-- Why a word is no command. The reasons are the model's names for R94 to R98; the machine answers `ILLEGAL` to all. -/
inductive DecodeError where
  /-- `UNIT` is not 1, 2 or 3 (R94). -/
  | unknownUnit
  /-- `OP` is not one of the unit's operations (R95). -/
  | unknownOp
  /-- A bit of a field that must be zero is set (R96). -/
  | nonzeroField
  /-- A bit depth without a command: 5, 9, 10, or a complex depth of 17 or more (R97, R98). -/
  | reservedDepth
deriving DecidableEq, Repr

/-- `UNIT = CMD[31:28]` (R81). -/
def cmdUnit (w : Word) : Nat := (w.extractLsb' 28 4).toNat

/-- `OP = CMD[27:24]` (R81). -/
def cmdOp (w : Word) : Nat := (w.extractLsb' 24 4).toNat

/-- `FSEL = CMD[3:0]` of format H (R82). -/
def cmdFsel (w : Word) : Nat := (w.extractLsb' 0 4).toNat

/-- `CX = CMD[23]` of format P (R83). -/
def cmdCx (w : Word) : Bool := w.getLsbD 23

/-- `BM1 = CMD[4:0]` of format P (R83). -/
def cmdBm1 (w : Word) : Nat := (w.extractLsb' 0 5).toNat

/-- The field a selector names (R85). -/
def HdrField.ofFsel : Nat → HdrField
  | 0 => .invalid
  | 1 => .legacy
  | 2 => .seconds
  | 3 => .refEpoch
  | 4 => .frameNo
  | 5 => .version
  | 6 => .log2Chans
  | 7 => .frameLen8
  | 8 => .complex
  | 9 => .bpsM1
  | 10 => .threadId
  | 11 => .stationId
  | 12 => .edv0
  | 13 => .edv1
  | 14 => .edv2
  | _ => .edv3

/-- A lookup that answers the reserved-depth error where there is no command. -/
def depthInstr : Option Instr → Except DecodeError Instr
  | some i => .ok i
  | none => .error .reservedDepth

/-- Format H (R82): bits 23:4 are zero, and bits 3:0 too for `HDR.DEC` and `HDR.ENC`. -/
def decodeH (w : Word) : Except DecodeError Instr :=
  match cmdOp w with
  | 0 => if w.extractLsb' 0 24 = 0 then .ok .hdrDec else .error .nonzeroField
  | 1 => if w.extractLsb' 0 24 = 0 then .ok .hdrEnc else .error .nonzeroField
  | 2 => if w.extractLsb' 4 20 = 0 then .ok (hdrGetInstr (.ofFsel (cmdFsel w))) else .error .nonzeroField
  | 3 => if w.extractLsb' 4 20 = 0 then .ok (hdrSetInstr (.ofFsel (cmdFsel w))) else .error .nonzeroField
  | _ => .error .unknownOp

/-- Format P (R83): bits 22:5 are zero; the bit depth is `BM1 + 1` (R87). -/
def decodeP (w : Word) : Except DecodeError Instr :=
  match cmdOp w with
  | 0 =>
    if w.extractLsb' 5 18 = 0 then
      depthInstr (if cmdCx w then unpackComplexInstr (cmdBm1 w + 1) else unpackRealInstr (cmdBm1 w + 1))
    else .error .nonzeroField
  | 1 =>
    if w.extractLsb' 5 18 = 0 then
      depthInstr (if cmdCx w then packComplexInstr (cmdBm1 w + 1) else packRealInstr (cmdBm1 w + 1))
    else .error .nonzeroField
  | _ => .error .unknownOp

/-- Format R (R84): bits 23:0 are zero. -/
def decodeR (w : Word) : Except DecodeError Instr :=
  match cmdOp w with
  | 0 => if w.extractLsb' 0 24 = 0 then .ok .rbPush else .error .nonzeroField
  | 1 => if w.extractLsb' 0 24 = 0 then .ok .rbPop else .error .nonzeroField
  | _ => .error .unknownOp

/-- Decoding of a command word (R91): a command, or the reason there is none. -/
def decode (w : Word) : Except DecodeError Instr :=
  match cmdUnit w with
  | 1 => decodeH w
  | 2 => decodeP w
  | 3 => decodeR w
  | _ => .error .unknownUnit

/-- The instruction the decoder reads from the low `nbits` bits of `w`, every higher bit zero. A command is one 32-bit
word (R80). -/
def decodeTableWord (nbits w : Nat) : Option Instr :=
  match decode (BitVec.ofNat 32 (w % 2 ^ nbits)) with
  | .ok i => some i
  | .error _ => none

/-! ## Encoding -/

/-- The command word of a command (R90). -/
def encode : Instr → Word
  | .hdrDec => 0x10000000#32
  | .hdrEnc => 0x11000000#32
  | .hdrGetInvalid => 0x12000000#32
  | .hdrGetLegacy => 0x12000001#32
  | .hdrGetSeconds => 0x12000002#32
  | .hdrGetRefEpoch => 0x12000003#32
  | .hdrGetFrameNo => 0x12000004#32
  | .hdrGetVersion => 0x12000005#32
  | .hdrGetLog2Chans => 0x12000006#32
  | .hdrGetFrameLen8 => 0x12000007#32
  | .hdrGetComplex => 0x12000008#32
  | .hdrGetBpsM1 => 0x12000009#32
  | .hdrGetThreadId => 0x1200000A#32
  | .hdrGetStationId => 0x1200000B#32
  | .hdrGetEdv0 => 0x1200000C#32
  | .hdrGetEdv1 => 0x1200000D#32
  | .hdrGetEdv2 => 0x1200000E#32
  | .hdrGetEdv3 => 0x1200000F#32
  | .hdrSetInvalid => 0x13000000#32
  | .hdrSetLegacy => 0x13000001#32
  | .hdrSetSeconds => 0x13000002#32
  | .hdrSetRefEpoch => 0x13000003#32
  | .hdrSetFrameNo => 0x13000004#32
  | .hdrSetVersion => 0x13000005#32
  | .hdrSetLog2Chans => 0x13000006#32
  | .hdrSetFrameLen8 => 0x13000007#32
  | .hdrSetComplex => 0x13000008#32
  | .hdrSetBpsM1 => 0x13000009#32
  | .hdrSetThreadId => 0x1300000A#32
  | .hdrSetStationId => 0x1300000B#32
  | .hdrSetEdv0 => 0x1300000C#32
  | .hdrSetEdv1 => 0x1300000D#32
  | .hdrSetEdv2 => 0x1300000E#32
  | .hdrSetEdv3 => 0x1300000F#32
  | .pldUnpackR1 => 0x20000000#32
  | .pldPackR1 => 0x21000000#32
  | .pldUnpackR2 => 0x20000001#32
  | .pldPackR2 => 0x21000001#32
  | .pldUnpackR3 => 0x20000002#32
  | .pldPackR3 => 0x21000002#32
  | .pldUnpackR4 => 0x20000003#32
  | .pldPackR4 => 0x21000003#32
  | .pldUnpackR6 => 0x20000005#32
  | .pldPackR6 => 0x21000005#32
  | .pldUnpackR7 => 0x20000006#32
  | .pldPackR7 => 0x21000006#32
  | .pldUnpackR8 => 0x20000007#32
  | .pldPackR8 => 0x21000007#32
  | .pldUnpackR11 => 0x2000000A#32
  | .pldPackR11 => 0x2100000A#32
  | .pldUnpackR12 => 0x2000000B#32
  | .pldPackR12 => 0x2100000B#32
  | .pldUnpackR13 => 0x2000000C#32
  | .pldPackR13 => 0x2100000C#32
  | .pldUnpackR14 => 0x2000000D#32
  | .pldPackR14 => 0x2100000D#32
  | .pldUnpackR15 => 0x2000000E#32
  | .pldPackR15 => 0x2100000E#32
  | .pldUnpackR16 => 0x2000000F#32
  | .pldPackR16 => 0x2100000F#32
  | .pldUnpackR17 => 0x20000010#32
  | .pldPackR17 => 0x21000010#32
  | .pldUnpackR18 => 0x20000011#32
  | .pldPackR18 => 0x21000011#32
  | .pldUnpackR19 => 0x20000012#32
  | .pldPackR19 => 0x21000012#32
  | .pldUnpackR20 => 0x20000013#32
  | .pldPackR20 => 0x21000013#32
  | .pldUnpackR21 => 0x20000014#32
  | .pldPackR21 => 0x21000014#32
  | .pldUnpackR22 => 0x20000015#32
  | .pldPackR22 => 0x21000015#32
  | .pldUnpackR23 => 0x20000016#32
  | .pldPackR23 => 0x21000016#32
  | .pldUnpackR24 => 0x20000017#32
  | .pldPackR24 => 0x21000017#32
  | .pldUnpackR25 => 0x20000018#32
  | .pldPackR25 => 0x21000018#32
  | .pldUnpackR26 => 0x20000019#32
  | .pldPackR26 => 0x21000019#32
  | .pldUnpackR27 => 0x2000001A#32
  | .pldPackR27 => 0x2100001A#32
  | .pldUnpackR28 => 0x2000001B#32
  | .pldPackR28 => 0x2100001B#32
  | .pldUnpackR29 => 0x2000001C#32
  | .pldPackR29 => 0x2100001C#32
  | .pldUnpackR30 => 0x2000001D#32
  | .pldPackR30 => 0x2100001D#32
  | .pldUnpackR31 => 0x2000001E#32
  | .pldPackR31 => 0x2100001E#32
  | .pldUnpackR32 => 0x2000001F#32
  | .pldPackR32 => 0x2100001F#32
  | .pldUnpackC1 => 0x20800000#32
  | .pldPackC1 => 0x21800000#32
  | .pldUnpackC2 => 0x20800001#32
  | .pldPackC2 => 0x21800001#32
  | .pldUnpackC3 => 0x20800002#32
  | .pldPackC3 => 0x21800002#32
  | .pldUnpackC4 => 0x20800003#32
  | .pldPackC4 => 0x21800003#32
  | .pldUnpackC6 => 0x20800005#32
  | .pldPackC6 => 0x21800005#32
  | .pldUnpackC7 => 0x20800006#32
  | .pldPackC7 => 0x21800006#32
  | .pldUnpackC8 => 0x20800007#32
  | .pldPackC8 => 0x21800007#32
  | .pldUnpackC11 => 0x2080000A#32
  | .pldPackC11 => 0x2180000A#32
  | .pldUnpackC12 => 0x2080000B#32
  | .pldPackC12 => 0x2180000B#32
  | .pldUnpackC13 => 0x2080000C#32
  | .pldPackC13 => 0x2180000C#32
  | .pldUnpackC14 => 0x2080000D#32
  | .pldPackC14 => 0x2180000D#32
  | .pldUnpackC15 => 0x2080000E#32
  | .pldPackC15 => 0x2180000E#32
  | .pldUnpackC16 => 0x2080000F#32
  | .pldPackC16 => 0x2180000F#32
  | .rbPush => 0x30000000#32
  | .rbPop => 0x31000000#32

/-! ## Port rights -/

/-- Which port accepts which command (R92). -/
def portAccepts : Port → Instr → Bool
  | .cons, .rbPush => false
  | .prod, .rbPop => false
  | _, _ => true

end Sys2Proof
end

