-- ==== Sys2Proof/Machine/State.lean ====
section
/-! DEFINITION. The state of the block (R20 to R36), what it answers (R10, R340), the reasons a step can stop, and the
state after reset (R370 to R376). -/

namespace Sys2Proof.Machine

/-- The four statuses a transaction can end with (R340). -/
inductive Status where
  | ok
  | full
  | empty
  | illegal
deriving DecidableEq, Repr

/-- The phases of the producer port; a value names the next step to perform (R21, R302). -/
inductive ProdPhase where
  | idle
  | p1
  | p2
  | p3
  | p4
  | p5
deriving DecidableEq, Repr

/-- The phases of the consumer port (R21, R310). -/
inductive ConsPhase where
  | idle
  | c1
  | c2
  | c3
  | c4
  | c5
deriving DecidableEq, Repr

/-- A response: the status and the result lanes (R10). -/
structure Response where
  status : Status
  lanes : Lanes
deriving DecidableEq, Repr

/-- One port seen from outside: the requests its master will present (the model's own, log 1), the request the port has
taken last (log 8), and the response it has given, none while a transaction is in flight and after reset (log 9). -/
structure PortIO where
  pending : List Request
  req : Request
  rsp : Option Response
deriving DecidableEq, Repr

/-- What is private to `PROD` besides `vh` (R36, R355): the phase and the latches `p.h`, `p.t`, `p.D`. -/
structure ProdAgent where
  phase : ProdPhase
  h : Nat
  t : Nat
  d : List Word
deriving DecidableEq, Repr

/-- What is private to `CONS` besides `vt` (R36, R355): the phase and the latches `c.h`, `c.t`, `c.D`. -/
structure ConsAgent where
  phase : ConsPhase
  h : Nat
  t : Nat
  d : List Word
deriving DecidableEq, Repr

/-- Slot memory (R31, R32): pairs of a word address and the word there, addresses strictly rising. A word that is not
listed has not been written since the latest reset. -/
abbrev Memory := List (Nat × Word)

/-- One turn of the schedule (the model's own, log 2): an agent moves, with a free number for the load it may perform
(R13, R62), or reset is applied to the block (R370, R377). -/
inductive Turn where
  | move (port : Port) (draw : Nat)
  | reset
deriving DecidableEq, Repr

/-- The state of the block, and of its surroundings as far as they decide what happens next. -/
structure State where
  /-- `C`, `L`, `HDR_LAYOUT`, `STALE_VIEWS` (R4 to R6, R25, R26); nothing changes them. -/
  params : Params
  /-- The cursor `head`, next slot to read (R23). -/
  head : Nat
  /-- The cursor `tail`, next slot to write (R24). -/
  tail : Nat
  /-- Slot memory (R31). -/
  mem : Memory
  /-- `vh`, the pops `PROD` has observed (R34). -/
  vh : Nat
  /-- `vt`, the pushes `CONS` has observed (R34). -/
  vt : Nat
  /-- `npush`, the stores to `tail` since reset (R35). -/
  npush : Nat
  /-- `npop`, the stores to `head` since reset (R35). -/
  npop : Nat
  /-- The producer's phase and latches (R21, R36). -/
  prod : ProdAgent
  /-- The consumer's phase and latches (R21, R36). -/
  cons : ConsAgent
  /-- The lanes of the producer port (R10; log 1, log 8, log 9). -/
  prodIO : PortIO
  /-- The lanes of the consumer port (R10; log 1, log 8, log 9). -/
  consIO : PortIO
  /-- The agent whose turn it is (the model's own, log 2). -/
  port : Port
  /-- The free number of this turn (the model's own, log 3). -/
  draw : Nat
  /-- The turns still to come that are fixed (the model's own, log 2). -/
  sched : List Turn
  /-- How many resets have been applied (the model's own, log 5). -/
  resets : Nat
  /-- How many turns have been taken after the schedule had ended (the model's own, log 22). -/
  rested : Nat
deriving DecidableEq, Repr

/-- Why the machine stops. The block has no traps (R349); no state that a run reaches raises this. -/
inductive Fault where
  /-- Raised by steps P4 and C4 when the slot they address is not wholly within the words `0 .. C*L-1` of slot memory (R11).
  Safe: the model stops where the spec gives no access (log 12). -/
  | slotAddress (addr : Nat)
deriving DecidableEq, Repr

/-- Why an instruction has no meaning in a state. -/
inductive Refusal where
  /-- Raised by `exec` for a command that has no meaning yet; no arm does. Safe: nothing follows from it. -/
  | notModelled (mnemonic : String)
  /-- Raised by a command executed on a port whose transaction is still in flight: the port accepts no other command and
  the spec gives the overlap no step (R302, R310, U1). `step` never does this. Safe (log 10). -/
  | portBusy
  /-- Raised by `RB.PUSH` when the request does not carry exactly `L` words: such a payload cannot be presented
  (R302, D16). Safe (log 11). -/
  | payloadLength
deriving DecidableEq, Repr

/-- A port on which nothing has happened yet, with request lanes of `l` ring-slot words (log 8, log 9). -/
def PortIO.zero (l : Nat) : PortIO :=
  { pending := [], req := { cmd := 0, lanes := Lanes.zero l }, rsp := none }

/-- The state after reset of a block with the given parameters (R371 to R376). The latches are unspecified and unreadable
(R375); the values here are the model's (log 7). No slot word is listed: each reads as a free value (R373, log 5). -/
def State.resetWith (p : Params) : State where
  params := p
  head := 0
  tail := 0
  mem := []
  vh := 0
  vt := 0
  npush := 0
  npop := 0
  prod := { phase := .idle, h := 0, t := 0, d := [] }
  cons := { phase := .idle, h := 0, t := 0, d := [] }
  prodIO := PortIO.zero p.slotWords
  consIO := PortIO.zero p.slotWords
  port := .prod
  draw := 0
  sched := []
  resets := 0
  rested := 0

/-- The machine right after reset (R370 to R376), for the parameters that log 6 names. -/
def State.reset : State :=
  State.resetWith Params.default

end Sys2Proof.Machine
end

