-- ==== Sys2Proof/Machine/Flags.lean ====
section
/-! DEFINITION. The block keeps no flags (R22). Here are the statuses' codes (R340) and the tests that decide a status:
positions, their distance, full and empty (R27 to R30). -/

namespace Sys2Proof.Machine

/-- The 2-bit code of a status (R340). -/
def Status.code : Status → BitVec 2
  | .ok => 0
  | .full => 1
  | .empty => 2
  | .illegal => 3

/-- `slot_of(p)`, the ring slot of a position in `[0, 2C)` (R27). -/
def slotOf (c p : Nat) : Nat :=
  if p < c then p else p - c

/-- `distance(h, t) = (t - h) mod 2C` for positions `h`, `t` in `[0, 2C)` (R28). -/
def distance (c h t : Nat) : Nat :=
  (t + 2 * c - h) % (2 * c)

/-- `inc(p) = (p + 1) mod 2C` for a position `p`, by an explicit comparison (R29). -/
def inc (c p : Nat) : Nat :=
  if p + 1 < 2 * c then p + 1 else 0

/-- The full test of step P3 (R305). -/
def isFull (c h t : Nat) : Bool :=
  distance c h t == c

/-- The empty test of step C3: equality of positions, not of slots (R313). -/
def isEmpty (h t : Nat) : Bool :=
  h == t

end Sys2Proof.Machine
end

