-- ==== Sys2Proof/Machine/Operands.lean ====
section
/-! DEFINITION. The bit-field operations of the two codecs: masks, header fields (R110 to R115), sample slots of a payload
word, real (R170 to R172) and complex (R240 to R242), and the lanes of a ring slot. -/

namespace Sys2Proof.Machine

/-- `mask(n) = 2^n - 1` for `n <= 32` (R8). -/
def mask (n : Nat) : Word :=
  BitVec.ofNat 32 (2 ^ n - 1)

/-! ## Header fields -/

/-- `fld_get(W, F) = (W[wd] >> sh) & mask(wi)` (R111). -/
def fldGet (lay : HdrLayout) (f : HdrField) (w : Image) : Word :=
  (w[f.word] >>> lay.shift f) &&& mask f.width

/-- `fld_put(F, v) = trunc32((v & mask(wi)) << sh)` (R112). -/
def fldPut (lay : HdrLayout) (f : HdrField) (v : Word) : Word :=
  (v &&& mask f.width) <<< lay.shift f

/-- OR-insert of a value at a field's place, the field not cleared first (R132 to R147). -/
def fldSet (lay : HdrLayout) (f : HdrField) (v : Word) (w : Image) : Image :=
  w.set f.word (w[f.word] ||| fldPut lay f v)

/-- The record of an image (R114). -/
def decodeHeader (lay : HdrLayout) (w : Image) : HdrRecord where
  isValid := 1 - fldGet lay .invalid w
  legacy := fldGet lay .legacy w
  seconds := fldGet lay .seconds w
  refEpoch := fldGet lay .refEpoch w
  frameNo := fldGet lay .frameNo w
  version := fldGet lay .version w
  log2Chans := fldGet lay .log2Chans w
  frameLen8 := fldGet lay .frameLen8 w
  complex := fldGet lay .complex w
  bpsM1 := fldGet lay .bpsM1 w
  threadId := fldGet lay .threadId w
  stationId := fldGet lay .stationId w
  edv0 := fldGet lay .edv0 w
  edv1 := fldGet lay .edv1 w
  edv2 := fldGet lay .edv2 w
  edv3 := fldGet lay .edv3 w

/-- The image of a record (R115). Only bit 0 of `is_valid` is used, complemented. -/
def encodeHeader (lay : HdrLayout) (h : HdrRecord) : Image :=
  #v[fldPut lay .invalid (1 - (h.isValid &&& 1)) ||| fldPut lay .legacy h.legacy ||| fldPut lay .seconds h.seconds,
     fldPut lay .refEpoch h.refEpoch ||| fldPut lay .frameNo h.frameNo,
     fldPut lay .version h.version ||| fldPut lay .log2Chans h.log2Chans ||| fldPut lay .frameLen8 h.frameLen8,
     fldPut lay .complex h.complex ||| fldPut lay .bpsM1 h.bpsM1 ||| fldPut lay .threadId h.threadId
       ||| fldPut lay .stationId h.stationId,
     fldPut lay .edv0 h.edv0,
     fldPut lay .edv1 h.edv1,
     fldPut lay .edv2 h.edv2,
     fldPut lay .edv3 h.edv3]

/-! ## Sample slots of a payload word -/

/-- `n(b) = floor(32 / b)`, the real samples of a word (R170). -/
def realCount (b : Nat) : Nat := 32 / b

/-- `m(b) = floor(n(b) / 2)`, the complex samples of a word (R240). -/
def complexCount (b : Nat) : Nat := realCount b / 2

/-- `UMASK_R(b) = mask(b * n(b))`, the bits the real samples of depth `b` occupy (R170). -/
def realMask (b : Nat) : Word := mask (b * realCount b)

/-- `UMASK_C(b) = mask(2 * b * m(b))`, the bits the complex samples of depth `b` occupy (R240). -/
def complexMask (b : Nat) : Word := mask (2 * b * complexCount b)

/-- The `b` bits at position `p` of a payload word, zero-extended: `PW[p + b - 1 : p]`. -/
def sampleGet (b p : Nat) (pw : Word) : Word :=
  (pw >>> p) &&& mask b

/-- A sample masked to `b` bits and placed at position `p` of a payload word. -/
def samplePut (b p : Nat) (v : Word) : Word :=
  (v &&& mask b) <<< p

/-- The sample lanes of a payload word at real depth `b`; lanes past `n(b)` are zero (R171). -/
def unpackReal (b : Nat) (pw : Word) : Vector Word 32 :=
  Vector.ofFn fun k => if k.val < realCount b then sampleGet b (b * k.val) pw else 0

/-- The OR of `k` words. -/
def orUpTo (f : Nat → Word) : Nat → Word
  | 0 => 0
  | k + 1 => orUpTo f k ||| f k

/-- The payload word of the first `n(b)` sample lanes at real depth `b` (R172). -/
def packReal (b : Nat) (s : Vector Word 32) : Word :=
  orUpTo (fun k => samplePut b (b * k) (s[k]?.getD 0)) (realCount b)

/-- The in-phase lanes of a payload word at complex depth `b`: the even slots (R241). -/
def unpackI (b : Nat) (pw : Word) : Vector Word 16 :=
  Vector.ofFn fun k => if k.val < complexCount b then sampleGet b (2 * b * k.val) pw else 0

/-- The quadrature lanes of a payload word at complex depth `b`: the odd slots (R241). -/
def unpackQ (b : Nat) (pw : Word) : Vector Word 16 :=
  Vector.ofFn fun k => if k.val < complexCount b then sampleGet b (2 * b * k.val + b) pw else 0

/-- The payload word of the first `m(b)` pairs at complex depth `b` (R242). -/
def packComplex (b : Nat) (i q : Vector Word 16) : Word :=
  orUpTo (fun k => samplePut b (2 * b * k) (i[k]?.getD 0) ||| samplePut b (2 * b * k + b) (q[k]?.getD 0)) (complexCount b)

/-! ## Lanes of a ring slot -/

/-- The lanes `D[0..l-1]` of a list of words. Where the list has `l` words, as every request that `RB.PUSH` accepts
(R302), it is the list itself. -/
def slotLanes (l : Nat) (d : List Word) : List Word :=
  (List.range l).map fun j => d[j]?.getD 0

end Sys2Proof.Machine
end

