-- ==== Sys2Proof/Machine/Ops.lean ====
section
/-! DEFINITION. The named operations: slot memory (R11, R31, R300), the acting port, ending a transaction with a status
(the block's one counterpart of taking an exception, R349), cursor loads (R61, R62), turns, requests and reset. -/

namespace Sys2Proof.Machine

/-! ## Slot memory -/

/-- The canonical form: word addresses strictly rising. An unlisted address has no recorded word, so no entry equals what
an unlisted address holds (log 5). -/
abbrev Memory.wf (m : Memory) : Prop :=
  m.Pairwise fun a b => a.1 < b.1

/-- The word written at an address since the latest reset, if any. -/
def Memory.read? : Memory → Nat → Option Word
  | [], _ => none
  | (b, v) :: m, a => if a = b then some v else Memory.read? m a

/-- Write one word, in place or at its place in the order. -/
def Memory.write : Memory → Nat → Word → Memory
  | [], a, w => [(a, w)]
  | (b, v) :: m, a, w =>
    if a < b then (a, w) :: (b, v) :: m
    else if a = b then (a, w) :: m
    else (b, v) :: Memory.write m a w

/-- Write consecutive words from an address on. -/
def Memory.writeWords (m : Memory) (a : Nat) : List Word → Memory
  | [] => m
  | w :: ws => Memory.writeWords (Memory.write m a w) (a + 1) ws

/-- The word at an address: what was written there since reset, else the free value of an unwritten word (R373). -/
def State.readWord (s : State) (a : Nat) : Word :=
  (Memory.read? s.mem a).getD (Config.slotPowerOn s.resets a)

/-- `MemRead(a, n)` (R11). -/
def State.readWords (s : State) (a n : Nat) : List Word :=
  (List.range n).map fun j => s.readWord (a + j)

/-- The word address of word 0 of the ring slot of a position (R300). -/
def State.slotBase (s : State) (p : Nat) : Nat :=
  slotOf s.params.capacity p * s.params.slotWords

/-- A ring slot at this address is wholly within slot memory, words `0 .. C*L-1` (R11). -/
def State.slotInside (s : State) (a : Nat) : Bool :=
  decide (a + s.params.slotWords ≤ s.params.capacity * s.params.slotWords)

/-! ## The acting port -/

/-- The lanes of the port whose turn it is. -/
def State.io (s : State) : PortIO :=
  match s.port with
  | .prod => s.prodIO
  | .cons => s.consIO

/-- Replace the lanes of the port whose turn it is. -/
def State.setIO (s : State) (io : PortIO) : State :=
  { s with
    prodIO := match s.port with | .prod => io | .cons => s.prodIO
    consIO := match s.port with | .prod => s.consIO | .cons => io }

/-- No transaction is in flight on the port whose turn it is (R21). -/
def State.portIdle (s : State) : Bool :=
  match s.port with
  | .prod => s.prod.phase == .idle
  | .cons => s.cons.phase == .idle

/-- The request on the port whose turn it is. -/
def State.request (s : State) : Request := s.io.req

/-- Replace the operand lanes of the request on the port whose turn it is. -/
def State.withLanes (s : State) (lanes : Lanes) : State :=
  s.setIO { s.io with req := { s.request with lanes := lanes } }

/-! ## Ending a transaction -/

/-- Give the response of a transaction on the port whose turn it is; nothing else changes. For a status other than `OK` this
is `raise <Status>` (R11, R349): nothing is saved, no mode changes, control goes nowhere, and there is no return (R350). -/
def State.respond (s : State) (st : Status) (lanes : Lanes) : State :=
  s.setIO { s.io with rsp := some { status := st, lanes := lanes } }

/-- Withdraw the response of the port whose turn it is: a transaction has begun and has not ended (log 9). -/
def State.awaitResponse (s : State) : State :=
  s.setIO { s.io with rsp := none }

/-- The response lanes before a rule writes them: all zero (R10). -/
def State.zeroLanes (s : State) : Lanes :=
  Lanes.zero s.params.slotWords

/-- Answer `ILLEGAL`: every other lane is zero and nothing changes (R344). -/
def State.respondIllegal (s : State) : State :=
  s.respond .illegal s.zeroLanes

/-- One codec command (R37): on an idle port, answer `OK` with lanes computed from the request and the parameters alone; no
state is touched. On a port with a transaction in flight it is not accepted (R302, R310). -/
def State.codec (s : State) (result : Params → Lanes → Lanes) : Host.Outcome State Fault Refusal :=
  if s.portIdle then .next (s.respond .ok (result s.params s.request.lanes)) else .refused .portBusy

/-! ## Cursors -/

/-- The count `k` that a load of the other agent's cursor chooses (R62): any with `seen <= k <= stored`, by the free number of
the turn; the newest when `STALE_VIEWS` is false. Every such `k` is met by some free number (log 3). -/
def State.loadOther (s : State) (seen stored : Nat) : Nat :=
  if s.params.staleViews && decide (seen < stored) then seen + s.draw % (stored - seen + 1) else stored

/-- The position of a count (R35): `k mod 2C`. -/
def State.position (s : State) (k : Nat) : Nat :=
  k % (2 * s.params.capacity)

/-! ## Turns, requests, reset -/

/-- The turn that a port with a transaction in flight takes when the schedule has ended: every accepted transaction runs to
its response (R356). Where both ports are busy either may move (R13). None where both are idle (R376). -/
def State.restTurn (s : State) : Option Turn :=
  match s.prod.phase == .idle, s.cons.phase == .idle with
  | true, true => none
  | false, true => some (.move .prod (Config.restDraw s.rested))
  | true, false => some (.move .cons (Config.restDraw s.rested))
  | false, false =>
    some (.move (if Config.restProducer s.rested then .prod else .cons) (Config.restDraw s.rested))

/-- The next turn: that of the schedule, and when it has ended the turn of a busy port. -/
def State.nextTurn (s : State) : Option Turn :=
  match s.sched with
  | turn :: _ => some turn
  | [] => s.restTurn

/-- The turn of an agent begins (R13). -/
def State.takeTurn (s : State) (p : Port) (draw : Nat) : State :=
  { s with
    port := p, draw := draw, sched := s.sched.tail,
    rested := if s.sched.isEmpty then s.rested + 1 else s.rested }

/-- The acting port has taken the request `r`, and `rs` are still to be presented. -/
def State.taken (s : State) (r : Request) (rs : List Request) : State :=
  s.setIO { s.io with pending := rs, req := r }

/-- The port takes the next request of its master, if there is one. -/
def State.fetch (s : State) : Option State :=
  match s.io.pending with
  | [] => none
  | r :: rs => some (s.taken r rs)

/-- The command in flight on a busy port: the only commands of more than one step (R21). -/
def State.inFlight (s : State) : Instr :=
  match s.port with
  | .prod => .rbPush
  | .cons => .rbPop

/-- Reset, at any time (R370 to R377): cursors, views and counters 0, phases `IDLE`, a transaction in flight is aborted
without a response, slot memory unspecified anew, parameters unchanged. The latches are left, unreadable (R375, log 7); what
the masters will present is outside the block and is left too. -/
def State.applyReset (s : State) (rest : List Turn) : State :=
  { s with
    head := 0, tail := 0, mem := [], vh := 0, vt := 0, npush := 0, npop := 0,
    prod := { s.prod with phase := .idle }, cons := { s.cons with phase := .idle },
    prodIO := { s.prodIO with rsp := none }, consIO := { s.consIO with rsp := none },
    sched := rest, resets := s.resets + 1 }

end Sys2Proof.Machine
end

