-- ==== Sys2Proof/Machine/HeaderCodec.lean ====
section
/-! DEFINITION. The header codec commands (R110 to R147): `HDR.DEC`, `HDR.ENC`, `HDR.GET.<F>`, `HDR.SET.<F>`. -/

namespace Sys2Proof.Machine

/-- `HDR.DEC` (R114): the record of the eight words. -/
def execHdrDec (s : State) : Host.Outcome State Fault Refusal :=
  s.codec fun p r => { Lanes.zero p.slotWords with h := decodeHeader p.layout r.w }

/-- `HDR.ENC` (R115): the eight words of the record. -/
def execHdrEnc (s : State) : Host.Outcome State Fault Refusal :=
  s.codec fun p r => { Lanes.zero p.slotWords with w := encodeHeader p.layout r.h }

/-- Field extract (R111, D7): the stored value of one field in lane `V`. -/
def hdrGet (f : HdrField) (s : State) : Host.Outcome State Fault Refusal :=
  s.codec fun p r => { Lanes.zero p.slotWords with v := fldGet p.layout f r.w }

/-- Field OR-insert (R112, D7): the masked value is ORed into its place; the other words pass through. -/
def hdrSet (f : HdrField) (s : State) : Host.Outcome State Fault Refusal :=
  s.codec fun p r => { Lanes.zero p.slotWords with w := fldSet p.layout f r.v r.w }

/-- `HDR.GET.INVALID` (R116). -/
def execHdrGetInvalid (s : State) : Host.Outcome State Fault Refusal := hdrGet .invalid s

/-- `HDR.GET.LEGACY` (R117). -/
def execHdrGetLegacy (s : State) : Host.Outcome State Fault Refusal := hdrGet .legacy s

/-- `HDR.GET.SECONDS` (R118). -/
def execHdrGetSeconds (s : State) : Host.Outcome State Fault Refusal := hdrGet .seconds s

/-- `HDR.GET.REF_EPOCH` (R119). -/
def execHdrGetRefEpoch (s : State) : Host.Outcome State Fault Refusal := hdrGet .refEpoch s

/-- `HDR.GET.FRAME_NO` (R120). -/
def execHdrGetFrameNo (s : State) : Host.Outcome State Fault Refusal := hdrGet .frameNo s

/-- `HDR.GET.VERSION` (R121). -/
def execHdrGetVersion (s : State) : Host.Outcome State Fault Refusal := hdrGet .version s

/-- `HDR.GET.LOG2_CHANS` (R122). -/
def execHdrGetLog2Chans (s : State) : Host.Outcome State Fault Refusal := hdrGet .log2Chans s

/-- `HDR.GET.FRAME_LEN8` (R123). -/
def execHdrGetFrameLen8 (s : State) : Host.Outcome State Fault Refusal := hdrGet .frameLen8 s

/-- `HDR.GET.COMPLEX` (R124). -/
def execHdrGetComplex (s : State) : Host.Outcome State Fault Refusal := hdrGet .complex s

/-- `HDR.GET.BPS_M1` (R125). -/
def execHdrGetBpsM1 (s : State) : Host.Outcome State Fault Refusal := hdrGet .bpsM1 s

/-- `HDR.GET.THREAD_ID` (R126). -/
def execHdrGetThreadId (s : State) : Host.Outcome State Fault Refusal := hdrGet .threadId s

/-- `HDR.GET.STATION_ID` (R127). -/
def execHdrGetStationId (s : State) : Host.Outcome State Fault Refusal := hdrGet .stationId s

/-- `HDR.GET.EDV0` (R128). -/
def execHdrGetEdv0 (s : State) : Host.Outcome State Fault Refusal := hdrGet .edv0 s

/-- `HDR.GET.EDV1` (R129). -/
def execHdrGetEdv1 (s : State) : Host.Outcome State Fault Refusal := hdrGet .edv1 s

/-- `HDR.GET.EDV2` (R130). -/
def execHdrGetEdv2 (s : State) : Host.Outcome State Fault Refusal := hdrGet .edv2 s

/-- `HDR.GET.EDV3` (R131). -/
def execHdrGetEdv3 (s : State) : Host.Outcome State Fault Refusal := hdrGet .edv3 s

/-- `HDR.SET.INVALID` (R132). -/
def execHdrSetInvalid (s : State) : Host.Outcome State Fault Refusal := hdrSet .invalid s

/-- `HDR.SET.LEGACY` (R133). -/
def execHdrSetLegacy (s : State) : Host.Outcome State Fault Refusal := hdrSet .legacy s

/-- `HDR.SET.SECONDS` (R134). -/
def execHdrSetSeconds (s : State) : Host.Outcome State Fault Refusal := hdrSet .seconds s

/-- `HDR.SET.REF_EPOCH` (R135). -/
def execHdrSetRefEpoch (s : State) : Host.Outcome State Fault Refusal := hdrSet .refEpoch s

/-- `HDR.SET.FRAME_NO` (R136). -/
def execHdrSetFrameNo (s : State) : Host.Outcome State Fault Refusal := hdrSet .frameNo s

/-- `HDR.SET.VERSION` (R137). -/
def execHdrSetVersion (s : State) : Host.Outcome State Fault Refusal := hdrSet .version s

/-- `HDR.SET.LOG2_CHANS` (R138). -/
def execHdrSetLog2Chans (s : State) : Host.Outcome State Fault Refusal := hdrSet .log2Chans s

/-- `HDR.SET.FRAME_LEN8` (R139). -/
def execHdrSetFrameLen8 (s : State) : Host.Outcome State Fault Refusal := hdrSet .frameLen8 s

/-- `HDR.SET.COMPLEX` (R140). -/
def execHdrSetComplex (s : State) : Host.Outcome State Fault Refusal := hdrSet .complex s

/-- `HDR.SET.BPS_M1` (R141). -/
def execHdrSetBpsM1 (s : State) : Host.Outcome State Fault Refusal := hdrSet .bpsM1 s

/-- `HDR.SET.THREAD_ID` (R142). -/
def execHdrSetThreadId (s : State) : Host.Outcome State Fault Refusal := hdrSet .threadId s

/-- `HDR.SET.STATION_ID` (R143). -/
def execHdrSetStationId (s : State) : Host.Outcome State Fault Refusal := hdrSet .stationId s

/-- `HDR.SET.EDV0` (R144). -/
def execHdrSetEdv0 (s : State) : Host.Outcome State Fault Refusal := hdrSet .edv0 s

/-- `HDR.SET.EDV1` (R145). -/
def execHdrSetEdv1 (s : State) : Host.Outcome State Fault Refusal := hdrSet .edv1 s

/-- `HDR.SET.EDV2` (R146). -/
def execHdrSetEdv2 (s : State) : Host.Outcome State Fault Refusal := hdrSet .edv2 s

/-- `HDR.SET.EDV3` (R147). -/
def execHdrSetEdv3 (s : State) : Host.Outcome State Fault Refusal := hdrSet .edv3 s

end Sys2Proof.Machine
end

