-- ==== Sys2Proof/Machine/PayloadComplex.lean ====
section
/-! DEFINITION. The payload commands on complex samples (R240 to R270): `PLD.UNPACK.C<b>`, `PLD.PACK.C<b>`. -/

namespace Sys2Proof.Machine

/-- The general unpack law (R241): `N = m(b)`, the in-phase and the quadrature samples of the payload word. -/
def pldUnpackComplex (b : Nat) (s : State) : Host.Outcome State Fault Refusal :=
  s.codec fun p r => { Lanes.zero p.slotWords with n := complexCount b, i := unpackI b r.pw, q := unpackQ b r.pw }

/-- The general pack law (R242): `N = m(b)` and the payload word of the pairs. -/
def pldPackComplex (b : Nat) (s : State) : Host.Outcome State Fault Refusal :=
  s.codec fun p r => { Lanes.zero p.slotWords with n := complexCount b, pw := packComplex b r.i r.q }

/-- `PLD.UNPACK.C1` (R245). -/
def execPldUnpackC1 (s : State) : Host.Outcome State Fault Refusal := pldUnpackComplex 1 s

/-- `PLD.PACK.C1` (R246). -/
def execPldPackC1 (s : State) : Host.Outcome State Fault Refusal := pldPackComplex 1 s

/-- `PLD.UNPACK.C2` (R247). -/
def execPldUnpackC2 (s : State) : Host.Outcome State Fault Refusal := pldUnpackComplex 2 s

/-- `PLD.PACK.C2` (R248). -/
def execPldPackC2 (s : State) : Host.Outcome State Fault Refusal := pldPackComplex 2 s

/-- `PLD.UNPACK.C3` (R249). -/
def execPldUnpackC3 (s : State) : Host.Outcome State Fault Refusal := pldUnpackComplex 3 s

/-- `PLD.PACK.C3` (R250). -/
def execPldPackC3 (s : State) : Host.Outcome State Fault Refusal := pldPackComplex 3 s

/-- `PLD.UNPACK.C4` (R251). -/
def execPldUnpackC4 (s : State) : Host.Outcome State Fault Refusal := pldUnpackComplex 4 s

/-- `PLD.PACK.C4` (R252). -/
def execPldPackC4 (s : State) : Host.Outcome State Fault Refusal := pldPackComplex 4 s

/-- `PLD.UNPACK.C6` (R253). -/
def execPldUnpackC6 (s : State) : Host.Outcome State Fault Refusal := pldUnpackComplex 6 s

/-- `PLD.PACK.C6` (R254). -/
def execPldPackC6 (s : State) : Host.Outcome State Fault Refusal := pldPackComplex 6 s

/-- `PLD.UNPACK.C7` (R255). -/
def execPldUnpackC7 (s : State) : Host.Outcome State Fault Refusal := pldUnpackComplex 7 s

/-- `PLD.PACK.C7` (R256). -/
def execPldPackC7 (s : State) : Host.Outcome State Fault Refusal := pldPackComplex 7 s

/-- `PLD.UNPACK.C8` (R257). -/
def execPldUnpackC8 (s : State) : Host.Outcome State Fault Refusal := pldUnpackComplex 8 s

/-- `PLD.PACK.C8` (R258). -/
def execPldPackC8 (s : State) : Host.Outcome State Fault Refusal := pldPackComplex 8 s

/-- `PLD.UNPACK.C11` (R259). -/
def execPldUnpackC11 (s : State) : Host.Outcome State Fault Refusal := pldUnpackComplex 11 s

/-- `PLD.PACK.C11` (R260). -/
def execPldPackC11 (s : State) : Host.Outcome State Fault Refusal := pldPackComplex 11 s

/-- `PLD.UNPACK.C12` (R261). -/
def execPldUnpackC12 (s : State) : Host.Outcome State Fault Refusal := pldUnpackComplex 12 s

/-- `PLD.PACK.C12` (R262). -/
def execPldPackC12 (s : State) : Host.Outcome State Fault Refusal := pldPackComplex 12 s

/-- `PLD.UNPACK.C13` (R263). -/
def execPldUnpackC13 (s : State) : Host.Outcome State Fault Refusal := pldUnpackComplex 13 s

/-- `PLD.PACK.C13` (R264). -/
def execPldPackC13 (s : State) : Host.Outcome State Fault Refusal := pldPackComplex 13 s

/-- `PLD.UNPACK.C14` (R265). -/
def execPldUnpackC14 (s : State) : Host.Outcome State Fault Refusal := pldUnpackComplex 14 s

/-- `PLD.PACK.C14` (R266). -/
def execPldPackC14 (s : State) : Host.Outcome State Fault Refusal := pldPackComplex 14 s

/-- `PLD.UNPACK.C15` (R267). -/
def execPldUnpackC15 (s : State) : Host.Outcome State Fault Refusal := pldUnpackComplex 15 s

/-- `PLD.PACK.C15` (R268). -/
def execPldPackC15 (s : State) : Host.Outcome State Fault Refusal := pldPackComplex 15 s

/-- `PLD.UNPACK.C16` (R269). -/
def execPldUnpackC16 (s : State) : Host.Outcome State Fault Refusal := pldUnpackComplex 16 s

/-- `PLD.PACK.C16` (R270). -/
def execPldPackC16 (s : State) : Host.Outcome State Fault Refusal := pldPackComplex 16 s

end Sys2Proof.Machine
end

