-- ==== Sys2Proof/Machine/PayloadReal.lean ====
section
/-! DEFINITION. The payload commands on real samples (R170 to R231): `PLD.UNPACK.R<b>`, `PLD.PACK.R<b>`. -/

namespace Sys2Proof.Machine

/-- The general unpack law (R171): `N = n(b)` and the samples of the payload word. -/
def pldUnpackReal (b : Nat) (s : State) : Host.Outcome State Fault Refusal :=
  s.codec fun p r => { Lanes.zero p.slotWords with n := realCount b, s := unpackReal b r.pw }

/-- The general pack law (R172): `N = n(b)` and the payload word of the samples. -/
def pldPackReal (b : Nat) (s : State) : Host.Outcome State Fault Refusal :=
  s.codec fun p r => { Lanes.zero p.slotWords with n := realCount b, pw := packReal b r.s }

/-- `PLD.UNPACK.R1` (R174). -/
def execPldUnpackR1 (s : State) : Host.Outcome State Fault Refusal := pldUnpackReal 1 s

/-- `PLD.PACK.R1` (R175). -/
def execPldPackR1 (s : State) : Host.Outcome State Fault Refusal := pldPackReal 1 s

/-- `PLD.UNPACK.R2` (R176). -/
def execPldUnpackR2 (s : State) : Host.Outcome State Fault Refusal := pldUnpackReal 2 s

/-- `PLD.PACK.R2` (R177). -/
def execPldPackR2 (s : State) : Host.Outcome State Fault Refusal := pldPackReal 2 s

/-- `PLD.UNPACK.R3` (R178). -/
def execPldUnpackR3 (s : State) : Host.Outcome State Fault Refusal := pldUnpackReal 3 s

/-- `PLD.PACK.R3` (R179). -/
def execPldPackR3 (s : State) : Host.Outcome State Fault Refusal := pldPackReal 3 s

/-- `PLD.UNPACK.R4` (R180). -/
def execPldUnpackR4 (s : State) : Host.Outcome State Fault Refusal := pldUnpackReal 4 s

/-- `PLD.PACK.R4` (R181). -/
def execPldPackR4 (s : State) : Host.Outcome State Fault Refusal := pldPackReal 4 s

/-- `PLD.UNPACK.R6` (R182). -/
def execPldUnpackR6 (s : State) : Host.Outcome State Fault Refusal := pldUnpackReal 6 s

/-- `PLD.PACK.R6` (R183). -/
def execPldPackR6 (s : State) : Host.Outcome State Fault Refusal := pldPackReal 6 s

/-- `PLD.UNPACK.R7` (R184). -/
def execPldUnpackR7 (s : State) : Host.Outcome State Fault Refusal := pldUnpackReal 7 s

/-- `PLD.PACK.R7` (R185). -/
def execPldPackR7 (s : State) : Host.Outcome State Fault Refusal := pldPackReal 7 s

/-- `PLD.UNPACK.R8` (R186). -/
def execPldUnpackR8 (s : State) : Host.Outcome State Fault Refusal := pldUnpackReal 8 s

/-- `PLD.PACK.R8` (R187). -/
def execPldPackR8 (s : State) : Host.Outcome State Fault Refusal := pldPackReal 8 s

/-- `PLD.UNPACK.R11` (R188). -/
def execPldUnpackR11 (s : State) : Host.Outcome State Fault Refusal := pldUnpackReal 11 s

/-- `PLD.PACK.R11` (R189). -/
def execPldPackR11 (s : State) : Host.Outcome State Fault Refusal := pldPackReal 11 s

/-- `PLD.UNPACK.R12` (R190). -/
def execPldUnpackR12 (s : State) : Host.Outcome State Fault Refusal := pldUnpackReal 12 s

/-- `PLD.PACK.R12` (R191). -/
def execPldPackR12 (s : State) : Host.Outcome State Fault Refusal := pldPackReal 12 s

/-- `PLD.UNPACK.R13` (R192). -/
def execPldUnpackR13 (s : State) : Host.Outcome State Fault Refusal := pldUnpackReal 13 s

/-- `PLD.PACK.R13` (R193). -/
def execPldPackR13 (s : State) : Host.Outcome State Fault Refusal := pldPackReal 13 s

/-- `PLD.UNPACK.R14` (R194). -/
def execPldUnpackR14 (s : State) : Host.Outcome State Fault Refusal := pldUnpackReal 14 s

/-- `PLD.PACK.R14` (R195). -/
def execPldPackR14 (s : State) : Host.Outcome State Fault Refusal := pldPackReal 14 s

/-- `PLD.UNPACK.R15` (R196). -/
def execPldUnpackR15 (s : State) : Host.Outcome State Fault Refusal := pldUnpackReal 15 s

/-- `PLD.PACK.R15` (R197). -/
def execPldPackR15 (s : State) : Host.Outcome State Fault Refusal := pldPackReal 15 s

/-- `PLD.UNPACK.R16` (R198). -/
def execPldUnpackR16 (s : State) : Host.Outcome State Fault Refusal := pldUnpackReal 16 s

/-- `PLD.PACK.R16` (R199). -/
def execPldPackR16 (s : State) : Host.Outcome State Fault Refusal := pldPackReal 16 s

/-- `PLD.UNPACK.R17` (R200). -/
def execPldUnpackR17 (s : State) : Host.Outcome State Fault Refusal := pldUnpackReal 17 s

/-- `PLD.PACK.R17` (R201). -/
def execPldPackR17 (s : State) : Host.Outcome State Fault Refusal := pldPackReal 17 s

/-- `PLD.UNPACK.R18` (R202). -/
def execPldUnpackR18 (s : State) : Host.Outcome State Fault Refusal := pldUnpackReal 18 s

/-- `PLD.PACK.R18` (R203). -/
def execPldPackR18 (s : State) : Host.Outcome State Fault Refusal := pldPackReal 18 s

/-- `PLD.UNPACK.R19` (R204). -/
def execPldUnpackR19 (s : State) : Host.Outcome State Fault Refusal := pldUnpackReal 19 s

/-- `PLD.PACK.R19` (R205). -/
def execPldPackR19 (s : State) : Host.Outcome State Fault Refusal := pldPackReal 19 s

/-- `PLD.UNPACK.R20` (R206). -/
def execPldUnpackR20 (s : State) : Host.Outcome State Fault Refusal := pldUnpackReal 20 s

/-- `PLD.PACK.R20` (R207). -/
def execPldPackR20 (s : State) : Host.Outcome State Fault Refusal := pldPackReal 20 s

/-- `PLD.UNPACK.R21` (R208). -/
def execPldUnpackR21 (s : State) : Host.Outcome State Fault Refusal := pldUnpackReal 21 s

/-- `PLD.PACK.R21` (R209). -/
def execPldPackR21 (s : State) : Host.Outcome State Fault Refusal := pldPackReal 21 s

/-- `PLD.UNPACK.R22` (R210). -/
def execPldUnpackR22 (s : State) : Host.Outcome State Fault Refusal := pldUnpackReal 22 s

/-- `PLD.PACK.R22` (R211). -/
def execPldPackR22 (s : State) : Host.Outcome State Fault Refusal := pldPackReal 22 s

/-- `PLD.UNPACK.R23` (R212). -/
def execPldUnpackR23 (s : State) : Host.Outcome State Fault Refusal := pldUnpackReal 23 s

/-- `PLD.PACK.R23` (R213). -/
def execPldPackR23 (s : State) : Host.Outcome State Fault Refusal := pldPackReal 23 s

/-- `PLD.UNPACK.R24` (R214). -/
def execPldUnpackR24 (s : State) : Host.Outcome State Fault Refusal := pldUnpackReal 24 s

/-- `PLD.PACK.R24` (R215). -/
def execPldPackR24 (s : State) : Host.Outcome State Fault Refusal := pldPackReal 24 s

/-- `PLD.UNPACK.R25` (R216). -/
def execPldUnpackR25 (s : State) : Host.Outcome State Fault Refusal := pldUnpackReal 25 s

/-- `PLD.PACK.R25` (R217). -/
def execPldPackR25 (s : State) : Host.Outcome State Fault Refusal := pldPackReal 25 s

/-- `PLD.UNPACK.R26` (R218). -/
def execPldUnpackR26 (s : State) : Host.Outcome State Fault Refusal := pldUnpackReal 26 s

/-- `PLD.PACK.R26` (R219). -/
def execPldPackR26 (s : State) : Host.Outcome State Fault Refusal := pldPackReal 26 s

/-- `PLD.UNPACK.R27` (R220). -/
def execPldUnpackR27 (s : State) : Host.Outcome State Fault Refusal := pldUnpackReal 27 s

/-- `PLD.PACK.R27` (R221). -/
def execPldPackR27 (s : State) : Host.Outcome State Fault Refusal := pldPackReal 27 s

/-- `PLD.UNPACK.R28` (R222). -/
def execPldUnpackR28 (s : State) : Host.Outcome State Fault Refusal := pldUnpackReal 28 s

/-- `PLD.PACK.R28` (R223). -/
def execPldPackR28 (s : State) : Host.Outcome State Fault Refusal := pldPackReal 28 s

/-- `PLD.UNPACK.R29` (R224). -/
def execPldUnpackR29 (s : State) : Host.Outcome State Fault Refusal := pldUnpackReal 29 s

/-- `PLD.PACK.R29` (R225). -/
def execPldPackR29 (s : State) : Host.Outcome State Fault Refusal := pldPackReal 29 s

/-- `PLD.UNPACK.R30` (R226). -/
def execPldUnpackR30 (s : State) : Host.Outcome State Fault Refusal := pldUnpackReal 30 s

/-- `PLD.PACK.R30` (R227). -/
def execPldPackR30 (s : State) : Host.Outcome State Fault Refusal := pldPackReal 30 s

/-- `PLD.UNPACK.R31` (R228). -/
def execPldUnpackR31 (s : State) : Host.Outcome State Fault Refusal := pldUnpackReal 31 s

/-- `PLD.PACK.R31` (R229). -/
def execPldPackR31 (s : State) : Host.Outcome State Fault Refusal := pldPackReal 31 s

/-- `PLD.UNPACK.R32` (R230). -/
def execPldUnpackR32 (s : State) : Host.Outcome State Fault Refusal := pldUnpackReal 32 s

/-- `PLD.PACK.R32` (R231). -/
def execPldPackR32 (s : State) : Host.Outcome State Fault Refusal := pldPackReal 32 s

end Sys2Proof.Machine
end

