-- ==== Sys2Proof/Machine/Ring.lean ====
section
/-! DEFINITION. The ring-buffer controller (R300 to R315): `RB.PUSH` and `RB.POP`, one definition per micro-step. -/

namespace Sys2Proof.Machine

/-! ## RB.PUSH -/

/-- The state after P0: the words of the request are latched. -/
def pushLatch (s : State) : State :=
  { s.awaitResponse with prod := { s.prod with phase := .p1, d := s.request.lanes.d } }

/-- P0, accept (R302). A payload that is not `L` words cannot be presented (D16). -/
def pushAccept (s : State) : Host.Outcome State Fault Refusal :=
  if s.request.wf s.params then .next (pushLatch s) else .refused .payloadLength

/-- P1, load `head` (R303): any pop count from the one seen last to the newest. -/
def pushLoadHead (s : State) : State :=
  { s with
    vh := s.loadOther s.vh s.npop
    prod := { s.prod with phase := .p2, h := s.position (s.loadOther s.vh s.npop) } }

/-- P2, load `tail` (R304): the producer's own cursor, always current. -/
def pushLoadTail (s : State) : State :=
  { s with prod := { s.prod with phase := .p3, t := s.tail } }

/-- P3, the full test (R305): `FULL` hands the words back and changes nothing else. -/
def pushTest (s : State) : State :=
  if isFull s.params.capacity s.prod.h s.prod.t then
    { s.respond .full { s.zeroLanes with d := slotLanes s.params.slotWords s.prod.d } with
      prod := { s.prod with phase := .idle } }
  else { s with prod := { s.prod with phase := .p4 } }

/-- The state after P4: the `L` words stand in the ring slot at `tail`. -/
def pushCopy (s : State) : State :=
  { s with
    mem := Memory.writeWords s.mem (s.slotBase s.prod.t) (slotLanes s.params.slotWords s.prod.d)
    prod := { s.prod with phase := .p5 } }

/-- P4, copy in (R306), one step for the `L` writes (log 13). -/
def pushCopyIn (s : State) : Host.Outcome State Fault Refusal :=
  if s.slotInside (s.slotBase s.prod.t) then .next (pushCopy s) else .fault (.slotAddress (s.slotBase s.prod.t))

/-- P5, publish (R307): store `tail`, count the push, answer `OK`. -/
def pushPublish (s : State) : State :=
  { s.respond .ok s.zeroLanes with
    tail := inc s.params.capacity s.prod.t
    npush := s.npush + 1
    prod := { s.prod with phase := .idle } }

/-- `RB.PUSH` (R301): on the producer port the next micro-step of the transaction; on the consumer port it is illegal
(R92, R344). -/
def execRbPush (s : State) : Host.Outcome State Fault Refusal :=
  match s.port with
  | .cons => if s.portIdle then .next s.respondIllegal else .refused .portBusy
  | .prod =>
    match s.prod.phase with
    | .idle => pushAccept s
    | .p1 => .next (pushLoadHead s)
    | .p2 => .next (pushLoadTail s)
    | .p3 => .next (pushTest s)
    | .p4 => pushCopyIn s
    | .p5 => .next (pushPublish s)

/-! ## RB.POP -/

/-- C0, accept (R310): no request lane is read. -/
def popAccept (s : State) : State :=
  { s.awaitResponse with cons := { s.cons with phase := .c1 } }

/-- C1, load `head` (R311): the consumer's own cursor, always current. -/
def popLoadHead (s : State) : State :=
  { s with cons := { s.cons with phase := .c2, h := s.head } }

/-- C2, load `tail` (R312): any push count from the one seen last to the newest. -/
def popLoadTail (s : State) : State :=
  { s with
    vt := s.loadOther s.vt s.npush
    cons := { s.cons with phase := .c3, t := s.position (s.loadOther s.vt s.npush) } }

/-- C3, the empty test (R313): `EMPTY` answers zero lanes and changes nothing else. -/
def popTest (s : State) : State :=
  if isEmpty s.cons.h s.cons.t then
    { s.respond .empty s.zeroLanes with cons := { s.cons with phase := .idle } }
  else { s with cons := { s.cons with phase := .c4 } }

/-- The state after C4: the `L` words of the ring slot at `head` are latched; slot memory is not modified. -/
def popCopy (s : State) : State :=
  { s with cons := { s.cons with phase := .c5, d := s.readWords (s.slotBase s.cons.h) s.params.slotWords } }

/-- C4, copy out (R314), one step for the `L` reads (log 13). -/
def popCopyOut (s : State) : Host.Outcome State Fault Refusal :=
  if s.slotInside (s.slotBase s.cons.h) then .next (popCopy s) else .fault (.slotAddress (s.slotBase s.cons.h))

/-- C5, release the slot (R315): store `head`, count the pop, answer `OK` with the words copied out. -/
def popRelease (s : State) : State :=
  { s.respond .ok { s.zeroLanes with d := slotLanes s.params.slotWords s.cons.d } with
    head := inc s.params.capacity s.cons.h
    npop := s.npop + 1
    cons := { s.cons with phase := .idle } }

/-- `RB.POP` (R309): on the consumer port the next micro-step of the transaction; on the producer port it is illegal
(R92, R344). -/
def execRbPop (s : State) : Host.Outcome State Fault Refusal :=
  match s.port with
  | .prod => if s.portIdle then .next s.respondIllegal else .refused .portBusy
  | .cons =>
    match s.cons.phase with
    | .idle => .next (popAccept s)
    | .c1 => .next (popLoadHead s)
    | .c2 => .next (popLoadTail s)
    | .c3 => .next (popTest s)
    | .c4 => popCopyOut s
    | .c5 => .next (popRelease s)

end Sys2Proof.Machine
end

