-- ==== Sys2Proof/Machine/Dispatch.lean ====
section
/-! DEFINITION. From a command to its meaning, one arm per command. -/

namespace Sys2Proof.Machine

/-- One step of a command on the port whose turn it is. -/
def exec (i : Instr) (s : State) : Host.Outcome State Fault Refusal :=
  match i with
  | .hdrDec => Sys2Proof.Machine.execHdrDec s
  | .hdrEnc => Sys2Proof.Machine.execHdrEnc s
  | .hdrGetInvalid => Sys2Proof.Machine.execHdrGetInvalid s
  | .hdrGetLegacy => Sys2Proof.Machine.execHdrGetLegacy s
  | .hdrGetSeconds => Sys2Proof.Machine.execHdrGetSeconds s
  | .hdrGetRefEpoch => Sys2Proof.Machine.execHdrGetRefEpoch s
  | .hdrGetFrameNo => Sys2Proof.Machine.execHdrGetFrameNo s
  | .hdrGetVersion => Sys2Proof.Machine.execHdrGetVersion s
  | .hdrGetLog2Chans => Sys2Proof.Machine.execHdrGetLog2Chans s
  | .hdrGetFrameLen8 => Sys2Proof.Machine.execHdrGetFrameLen8 s
  | .hdrGetComplex => Sys2Proof.Machine.execHdrGetComplex s
  | .hdrGetBpsM1 => Sys2Proof.Machine.execHdrGetBpsM1 s
  | .hdrGetThreadId => Sys2Proof.Machine.execHdrGetThreadId s
  | .hdrGetStationId => Sys2Proof.Machine.execHdrGetStationId s
  | .hdrGetEdv0 => Sys2Proof.Machine.execHdrGetEdv0 s
  | .hdrGetEdv1 => Sys2Proof.Machine.execHdrGetEdv1 s
  | .hdrGetEdv2 => Sys2Proof.Machine.execHdrGetEdv2 s
  | .hdrGetEdv3 => Sys2Proof.Machine.execHdrGetEdv3 s
  | .hdrSetInvalid => Sys2Proof.Machine.execHdrSetInvalid s
  | .hdrSetLegacy => Sys2Proof.Machine.execHdrSetLegacy s
  | .hdrSetSeconds => Sys2Proof.Machine.execHdrSetSeconds s
  | .hdrSetRefEpoch => Sys2Proof.Machine.execHdrSetRefEpoch s
  | .hdrSetFrameNo => Sys2Proof.Machine.execHdrSetFrameNo s
  | .hdrSetVersion => Sys2Proof.Machine.execHdrSetVersion s
  | .hdrSetLog2Chans => Sys2Proof.Machine.execHdrSetLog2Chans s
  | .hdrSetFrameLen8 => Sys2Proof.Machine.execHdrSetFrameLen8 s
  | .hdrSetComplex => Sys2Proof.Machine.execHdrSetComplex s
  | .hdrSetBpsM1 => Sys2Proof.Machine.execHdrSetBpsM1 s
  | .hdrSetThreadId => Sys2Proof.Machine.execHdrSetThreadId s
  | .hdrSetStationId => Sys2Proof.Machine.execHdrSetStationId s
  | .hdrSetEdv0 => Sys2Proof.Machine.execHdrSetEdv0 s
  | .hdrSetEdv1 => Sys2Proof.Machine.execHdrSetEdv1 s
  | .hdrSetEdv2 => Sys2Proof.Machine.execHdrSetEdv2 s
  | .hdrSetEdv3 => Sys2Proof.Machine.execHdrSetEdv3 s
  | .pldUnpackR1 => Sys2Proof.Machine.execPldUnpackR1 s
  | .pldPackR1 => Sys2Proof.Machine.execPldPackR1 s
  | .pldUnpackR2 => Sys2Proof.Machine.execPldUnpackR2 s
  | .pldPackR2 => Sys2Proof.Machine.execPldPackR2 s
  | .pldUnpackR3 => Sys2Proof.Machine.execPldUnpackR3 s
  | .pldPackR3 => Sys2Proof.Machine.execPldPackR3 s
  | .pldUnpackR4 => Sys2Proof.Machine.execPldUnpackR4 s
  | .pldPackR4 => Sys2Proof.Machine.execPldPackR4 s
  | .pldUnpackR6 => Sys2Proof.Machine.execPldUnpackR6 s
  | .pldPackR6 => Sys2Proof.Machine.execPldPackR6 s
  | .pldUnpackR7 => Sys2Proof.Machine.execPldUnpackR7 s
  | .pldPackR7 => Sys2Proof.Machine.execPldPackR7 s
  | .pldUnpackR8 => Sys2Proof.Machine.execPldUnpackR8 s
  | .pldPackR8 => Sys2Proof.Machine.execPldPackR8 s
  | .pldUnpackR11 => Sys2Proof.Machine.execPldUnpackR11 s
  | .pldPackR11 => Sys2Proof.Machine.execPldPackR11 s
  | .pldUnpackR12 => Sys2Proof.Machine.execPldUnpackR12 s
  | .pldPackR12 => Sys2Proof.Machine.execPldPackR12 s
  | .pldUnpackR13 => Sys2Proof.Machine.execPldUnpackR13 s
  | .pldPackR13 => Sys2Proof.Machine.execPldPackR13 s
  | .pldUnpackR14 => Sys2Proof.Machine.execPldUnpackR14 s
  | .pldPackR14 => Sys2Proof.Machine.execPldPackR14 s
  | .pldUnpackR15 => Sys2Proof.Machine.execPldUnpackR15 s
  | .pldPackR15 => Sys2Proof.Machine.execPldPackR15 s
  | .pldUnpackR16 => Sys2Proof.Machine.execPldUnpackR16 s
  | .pldPackR16 => Sys2Proof.Machine.execPldPackR16 s
  | .pldUnpackR17 => Sys2Proof.Machine.execPldUnpackR17 s
  | .pldPackR17 => Sys2Proof.Machine.execPldPackR17 s
  | .pldUnpackR18 => Sys2Proof.Machine.execPldUnpackR18 s
  | .pldPackR18 => Sys2Proof.Machine.execPldPackR18 s
  | .pldUnpackR19 => Sys2Proof.Machine.execPldUnpackR19 s
  | .pldPackR19 => Sys2Proof.Machine.execPldPackR19 s
  | .pldUnpackR20 => Sys2Proof.Machine.execPldUnpackR20 s
  | .pldPackR20 => Sys2Proof.Machine.execPldPackR20 s
  | .pldUnpackR21 => Sys2Proof.Machine.execPldUnpackR21 s
  | .pldPackR21 => Sys2Proof.Machine.execPldPackR21 s
  | .pldUnpackR22 => Sys2Proof.Machine.execPldUnpackR22 s
  | .pldPackR22 => Sys2Proof.Machine.execPldPackR22 s
  | .pldUnpackR23 => Sys2Proof.Machine.execPldUnpackR23 s
  | .pldPackR23 => Sys2Proof.Machine.execPldPackR23 s
  | .pldUnpackR24 => Sys2Proof.Machine.execPldUnpackR24 s
  | .pldPackR24 => Sys2Proof.Machine.execPldPackR24 s
  | .pldUnpackR25 => Sys2Proof.Machine.execPldUnpackR25 s
  | .pldPackR25 => Sys2Proof.Machine.execPldPackR25 s
  | .pldUnpackR26 => Sys2Proof.Machine.execPldUnpackR26 s
  | .pldPackR26 => Sys2Proof.Machine.execPldPackR26 s
  | .pldUnpackR27 => Sys2Proof.Machine.execPldUnpackR27 s
  | .pldPackR27 => Sys2Proof.Machine.execPldPackR27 s
  | .pldUnpackR28 => Sys2Proof.Machine.execPldUnpackR28 s
  | .pldPackR28 => Sys2Proof.Machine.execPldPackR28 s
  | .pldUnpackR29 => Sys2Proof.Machine.execPldUnpackR29 s
  | .pldPackR29 => Sys2Proof.Machine.execPldPackR29 s
  | .pldUnpackR30 => Sys2Proof.Machine.execPldUnpackR30 s
  | .pldPackR30 => Sys2Proof.Machine.execPldPackR30 s
  | .pldUnpackR31 => Sys2Proof.Machine.execPldUnpackR31 s
  | .pldPackR31 => Sys2Proof.Machine.execPldPackR31 s
  | .pldUnpackR32 => Sys2Proof.Machine.execPldUnpackR32 s
  | .pldPackR32 => Sys2Proof.Machine.execPldPackR32 s
  | .pldUnpackC1 => Sys2Proof.Machine.execPldUnpackC1 s
  | .pldPackC1 => Sys2Proof.Machine.execPldPackC1 s
  | .pldUnpackC2 => Sys2Proof.Machine.execPldUnpackC2 s
  | .pldPackC2 => Sys2Proof.Machine.execPldPackC2 s
  | .pldUnpackC3 => Sys2Proof.Machine.execPldUnpackC3 s
  | .pldPackC3 => Sys2Proof.Machine.execPldPackC3 s
  | .pldUnpackC4 => Sys2Proof.Machine.execPldUnpackC4 s
  | .pldPackC4 => Sys2Proof.Machine.execPldPackC4 s
  | .pldUnpackC6 => Sys2Proof.Machine.execPldUnpackC6 s
  | .pldPackC6 => Sys2Proof.Machine.execPldPackC6 s
  | .pldUnpackC7 => Sys2Proof.Machine.execPldUnpackC7 s
  | .pldPackC7 => Sys2Proof.Machine.execPldPackC7 s
  | .pldUnpackC8 => Sys2Proof.Machine.execPldUnpackC8 s
  | .pldPackC8 => Sys2Proof.Machine.execPldPackC8 s
  | .pldUnpackC11 => Sys2Proof.Machine.execPldUnpackC11 s
  | .pldPackC11 => Sys2Proof.Machine.execPldPackC11 s
  | .pldUnpackC12 => Sys2Proof.Machine.execPldUnpackC12 s
  | .pldPackC12 => Sys2Proof.Machine.execPldPackC12 s
  | .pldUnpackC13 => Sys2Proof.Machine.execPldUnpackC13 s
  | .pldPackC13 => Sys2Proof.Machine.execPldPackC13 s
  | .pldUnpackC14 => Sys2Proof.Machine.execPldUnpackC14 s
  | .pldPackC14 => Sys2Proof.Machine.execPldPackC14 s
  | .pldUnpackC15 => Sys2Proof.Machine.execPldUnpackC15 s
  | .pldPackC15 => Sys2Proof.Machine.execPldPackC15 s
  | .pldUnpackC16 => Sys2Proof.Machine.execPldUnpackC16 s
  | .pldPackC16 => Sys2Proof.Machine.execPldPackC16 s
  | .rbPush => Sys2Proof.Machine.execRbPush s
  | .rbPop => Sys2Proof.Machine.execRbPop s

end Sys2Proof.Machine
end

