-- ==== Sys2Proof/Machine/Step.lean ====
section
/-! DEFINITION. One step of the machine: the next turn of the schedule (R13, R21), and where a command word is placed for
the next step to run it. -/

namespace Sys2Proof.Machine

/-- The next step of the agent whose turn it is. An idle port takes its master's next request, if any: a command runs its
first step (a codec command its only one), a word that is no command answers `ILLEGAL` (R91, R344). A busy port goes on
with its transaction (R302, R310). -/
def stepPort (s : State) : Host.Outcome State Fault Refusal :=
  if s.portIdle then
    match s.fetch with
    | none => .next s
    | some s' =>
      match decode s'.request.cmd with
      | .ok i => exec i s'
      | .error _ => .next s'.respondIllegal
  else exec s.inFlight s

/-- One step: the next turn of the schedule, or of a port whose transaction is still in flight when the schedule has ended
(R356). With neither the block waits (R376). -/
def step (s : State) : Host.Outcome State Fault Refusal :=
  match s.nextTurn with
  | none => .next s
  | some .reset => .next (s.applyReset s.sched.tail)
  | some (.move p draw) => stepPort (s.takeTurn p draw)

/-- The port on which a command word is presented to be run: the consumer port for `RB.POP`, else the producer port. -/
def fetchPort (w : Word) : Port :=
  if w = encode .rbPop then .cons else .prod

/-- The state in which the next step takes the low `nbits` bits of `w`, as a command word, from a port that accepts it: the
next turn is that port's, the port is idle, and the word is its master's next request, with zero operand lanes. -/
def State.withFetchWord (s : State) (nbits w : Nat) : State :=
  let cmd : Word := BitVec.ofNat 32 (w % 2 ^ nbits)
  let r : Request := { cmd := cmd, lanes := Lanes.zero s.params.slotWords }
  let turn : Turn := .move (fetchPort cmd) 0
  match fetchPort cmd with
  | .prod =>
    { s with
      sched := turn :: s.sched
      prod := { s.prod with phase := .idle }
      prodIO := { s.prodIO with pending := r :: s.prodIO.pending } }
  | .cons =>
    { s with
      sched := turn :: s.sched
      cons := { s.cons with phase := .idle }
      consIO := { s.consIO with pending := r :: s.consIO.pending } }

end Sys2Proof.Machine
end

