-- ==== Sys2Proof/Machine/Sizes.lean ====
section
/-! DEFINITION. Quantities the spec derives from a header record or a depth (R148 to R152, R232, R271). No command computes
them. -/

namespace Sys2Proof.Machine

/-- Channel count (R148). -/
def channels (h : HdrRecord) : Nat := 2 ^ h.log2Chans.toNat

/-- Bit depth (R149). -/
def bitsPerSample (h : HdrRecord) : Nat := h.bpsM1.toNat + 1

/-- Frame size in bytes (R150). -/
def frameBytes (h : HdrRecord) : Nat := 8 * h.frameLen8.toNat

/-- Payload size in bytes (R151), not defined for a frame shorter than its header (D26, log 17). -/
def payloadBytes (h : HdrRecord) : Option Nat :=
  if 4 ≤ h.frameLen8.toNat then some (frameBytes h - 32) else none

/-- Payload size in words (R152), not defined for a frame shorter than its header (D26, log 17). -/
def payloadWords (h : HdrRecord) : Option Nat :=
  (payloadBytes h).map (· / 4)

/-- Frame size in words, the header included (R152). -/
def frameWords (h : HdrRecord) : Nat := 2 * h.frameLen8.toNat

/-- Chronological index of real sample `k` of payload word `j` (R232). -/
def realIndex (b j k : Nat) : Nat := j * realCount b + k

/-- Chronological index of complex sample `k` of payload word `j` (R271). -/
def complexIndex (b j k : Nat) : Nat := j * complexCount b + k

end Sys2Proof.Machine
end

