-- ==== Sys2Proof/Machine/Wire.lean ====
section
/-! DEFINITION. The wire view of a frame: words as little-endian bytes, the header first, then the payload (R50 to R52).
The block itself never handles bytes (R11, R32). -/

namespace Sys2Proof.Machine

/-- Byte `k` of a word, `k` from 0 to 3: bits `8k+7 : 8k` (R50). -/
def wordByte (w : Word) (k : Nat) : Byte :=
  (w >>> (8 * k)).truncate 8

/-- The four bytes of a word at byte offsets `o` to `o + 3` (R50). -/
def wordBytes (w : Word) : List Byte :=
  [wordByte w 0, wordByte w 1, wordByte w 2, wordByte w 3]

/-- The word of four bytes (R50). -/
def bytesWord (b0 b1 b2 b3 : Byte) : Word :=
  b0.zeroExtend 32 ||| (b1.zeroExtend 32 <<< 8) ||| (b2.zeroExtend 32 <<< 16) ||| (b3.zeroExtend 32 <<< 24)

/-- Byte offset of header word `k` in a frame (R51). -/
def headerOffset (k : Nat) : Nat := 4 * k

/-- Byte offset of payload word `j` in a frame (R52). -/
def payloadOffset (j : Nat) : Nat := 32 + 4 * j

/-- The bytes of a frame: the header words, then the payload words (R51, R52). -/
def frameToBytes (header : Image) (payload : List Word) : List Byte :=
  (header.toList ++ payload).flatMap wordBytes

/-- The words of a byte sequence; bytes that make no whole word are dropped. -/
def bytesToWords : List Byte → List Word
  | b0 :: b1 :: b2 :: b3 :: rest => bytesWord b0 b1 b2 b3 :: bytesToWords rest
  | _ => []

end Sys2Proof.Machine
end

