-- ==== Sys2Proof/Safety.lean ====
section
/-! DEFINITION. What counts as a safe run: the invariants of R30, R35 and R317, the queue that the ring holds (R318), the
requests a master may present, bounded transactions (R316), and the liveness assumption `FAIR_VIEWS` (R66). -/

namespace Sys2Proof.Machine

/-! ## Outcomes -/

/-- The step has a next state: it neither faults nor is refused. -/
def completes (o : Host.Outcome State Fault Refusal) : Prop :=
  ∃ t, o = .next t

/-- The commands of the two codec units (R37): all but the two of the ring buffer. -/
def isCodec (i : Instr) : Bool :=
  i != .rbPush && i != .rbPop

/-- The two states hold the same ring: parameters, cursors, views, counters, phases and latches, and every word of slot
memory as it is read. -/
def SameRing (s t : State) : Prop :=
  t.params = s.params ∧ t.head = s.head ∧ t.tail = s.tail ∧ t.vh = s.vh ∧ t.vt = s.vt ∧ t.npush = s.npush ∧
    t.npop = s.npop ∧ t.prod = s.prod ∧ t.cons = s.cons ∧ ∀ a, t.readWord a = s.readWord a

/-- The response of the acting port after a step that has a next state. -/
def answer : Host.Outcome State Fault Refusal → Option Response
  | .next t => t.io.rsp
  | .fault _ => none
  | .refused _ => none

/-- What the acting port of a state answers to a command with the given operand lanes. -/
def ask (s : State) (i : Instr) (l : Lanes) : Option Response :=
  answer (exec i (s.withLanes l))

/-- The value with which `HDR.SET.<F>` writes the lane of a record: the lane, and for the invalid flag `1 - is_valid`
(R155). -/
def setValue (h : HdrRecord) : HdrField → Word
  | .invalid => 1 - h.isValid
  | f => h.lane f

/-- The image that the `HDR.SET` commands of a list of fields, answered one after the other, make of an image (R155). -/
def setsFrom (s : State) (h : HdrRecord) : List HdrField → Image → Option Image
  | [], w => some w
  | f :: fs, w =>
    match ask s (hdrSetInstr f) { s.zeroLanes with w := w, v := setValue h f } with
    | some r => setsFrom s h fs r.lanes.w
    | none => none

/-! ## The ring as a queue -/

/-- The words recorded in the ring slot of count `k`, slot `k mod C` (R318); `none` where a word is unwritten. -/
def State.slotWritten (s : State) (k : Nat) : List (Option Word) :=
  (List.range s.params.slotWords).map fun j =>
    Memory.read? s.mem (k % s.params.capacity * s.params.slotWords + j)

/-- The words of the ring slot of count `k`. -/
def State.slotAt (s : State) (k : Nat) : List Word :=
  s.readWords (k % s.params.capacity * s.params.slotWords) s.params.slotWords

/-- The elements pushed and not popped, oldest first: the slots of counts `npop` to `npush - 1` (R318). -/
def State.queue (s : State) : List (List Word) :=
  (List.range (s.npush - s.npop)).map fun i => s.slotAt (s.npop + i)

/-! ## Invariants -/

/-- What holds of the producer's latches in each phase (R301 to R307, R317). -/
abbrev State.prodInv (s : State) : Prop :=
  match s.prod.phase with
  | .idle => True
  | .p1 => s.prod.d.length = s.params.slotWords
  | .p2 => s.prod.d.length = s.params.slotWords ∧ s.prod.h = s.position s.vh
  | .p3 => s.prod.d.length = s.params.slotWords ∧ s.prod.h = s.position s.vh ∧ s.prod.t = s.position s.npush
  | .p4 => s.prod.d.length = s.params.slotWords ∧ s.prod.t = s.position s.npush ∧ s.npush < s.vh + s.params.capacity
  | .p5 =>
    s.prod.d.length = s.params.slotWords ∧ s.prod.t = s.position s.npush ∧ s.npush < s.vh + s.params.capacity ∧
      s.slotWritten s.npush = s.prod.d.map some

/-- What holds of the consumer's latches in each phase (R309 to R315, R317). -/
abbrev State.consInv (s : State) : Prop :=
  match s.cons.phase with
  | .idle => True
  | .c1 => True
  | .c2 => s.cons.h = s.position s.npop
  | .c3 => s.cons.h = s.position s.npop ∧ s.cons.t = s.position s.vt
  | .c4 => s.cons.h = s.position s.npop ∧ s.npop < s.vt
  | .c5 => s.cons.h = s.position s.npop ∧ s.npop < s.vt ∧ s.slotWritten s.npop = s.cons.d.map some

/-- The invariant of the block: legal parameters, R35 and R317, slot memory in canonical form within its addresses (R31), every
queued slot wholly written (R318), and the latches as their phases say. -/
structure State.Inv (s : State) : Prop where
  params : s.params.wf = true
  tail : s.tail = s.position s.npush
  head : s.head = s.position s.npop
  vh_le : s.vh ≤ s.npop
  pop_le_vt : s.npop ≤ s.vt
  vt_le : s.vt ≤ s.npush
  room : s.npush ≤ s.vh + s.params.capacity
  mem_wf : Memory.wf s.mem
  mem_inside : ∀ e ∈ s.mem, e.1 < s.params.capacity * s.params.slotWords
  written : ∀ k < s.npush, s.npop ≤ k → ∀ o ∈ s.slotWritten k, o.isSome = true
  prod : s.prodInv
  cons : s.consInv

/-- Every push that the producer's master will present carries `L` words, as R302 and D16 require of a master. -/
def State.envOk (s : State) : Prop :=
  ∀ r ∈ s.prodIO.pending, r.cmd = encode .rbPush → r.wf s.params = true

/-! ## Bounded transactions -/

/-- How many more of its own steps a transaction in flight on a port takes at most (R316). -/
def State.stepsLeft (s : State) : Port → Nat
  | .prod =>
    match s.prod.phase with
    | .idle => 0
    | .p1 => 5
    | .p2 => 4
    | .p3 => 3
    | .p4 => 2
    | .p5 => 1
  | .cons =>
    match s.cons.phase with
    | .idle => 0
    | .c1 => 5
    | .c2 => 4
    | .c3 => 3
    | .c4 => 2
    | .c5 => 1

/-- The response that stands on a port, if any. -/
def State.responseOn (s : State) : Port → Option Response
  | .prod => s.prodIO.rsp
  | .cons => s.consIO.rsp

/-- The step sequence of several turns of one agent, one free number a turn. -/
def turnsOf (p : Port) (draws : List Nat) : List Turn :=
  draws.map (Turn.move p)

/-! ## What a run delivers -/

/-- The words of the push that this step ends with `OK`, if it ends one: the producer moves at P5. -/
def publishedBy (s : State) : List (List Word) :=
  match s.nextTurn, s.prod.phase with
  | some (.move .prod _), .p5 => [s.prod.d]
  | _, _ => []

/-- The words that the pop ended by this step answers with `OK`, if it ends one: the consumer moves at C5 and comes to `t`. -/
def releasedBy (s t : State) : List (List Word) :=
  match s.nextTurn, s.cons.phase, t.consIO.rsp with
  | some (.move .cons _), .c5, some r => [r.lanes.d]
  | _, _, _ => []

/-- The words of the pushes that answer `OK` within `n` steps, in order (R71). -/
def pushedWords : Nat → State → List (List Word)
  | 0, _ => []
  | n + 1, s =>
    match step s with
    | .next t => publishedBy s ++ pushedWords n t
    | .fault _ => []
    | .refused _ => []

/-- The words that the pops answer with `OK` within `n` steps, in order (R71). -/
def poppedWords : Nat → State → List (List Word)
  | 0, _ => []
  | n + 1, s =>
    match step s with
    | .next t => releasedBy s t ++ poppedWords n t
    | .fault _ => []
    | .refused _ => []

/-! ## Endless runs and FAIR_VIEWS -/

/-- What the surroundings decide at one moment of an endless run: the next turn, and further requests of the masters. -/
structure Input where
  turn : Turn
  prodRequests : List Request
  consRequests : List Request
deriving DecidableEq, Repr

/-- The state in which the next turn is the given one and the masters have the given further requests to present. -/
def State.feed (s : State) (i : Input) : State :=
  { s with
    sched := [i.turn]
    prodIO := { s.prodIO with pending := s.prodIO.pending ++ i.prodRequests }
    consIO := { s.consIO with pending := s.consIO.pending ++ i.consRequests } }

/-- An endless run under an endless sequence of inputs. Every moment is a step, and no master stops in the middle of a
transaction (R356, U20): a port with a transaction in flight has another turn to come, unless reset intervenes. -/
structure IsRun (input : Nat → Input) (run : Nat → State) : Prop where
  steps : ∀ t, step ((run t).feed (input t)) = .next (run (t + 1))
  goesOn : ∀ t p, 0 < (run t).stepsLeft p →
    ∃ u, t ≤ u ∧ ((input u).turn = .reset ∨ ∃ draw, (input u).turn = .move p draw)

/-- At moment `t` the producer performs its load of `head` (P1). -/
def LoadsHead (input : Nat → Input) (run : Nat → State) (t : Nat) : Prop :=
  (run t).prod.phase = .p1 ∧ ∃ draw, (input t).turn = .move .prod draw

/-- At moment `t` the consumer performs its load of `tail` (C2). -/
def LoadsTail (input : Nat → Input) (run : Nat → State) (t : Nat) : Prop :=
  (run t).cons.phase = .c2 ∧ ∃ draw, (input t).turn = .move .cons draw

/-- `FAIR_VIEWS` (R66): an agent that keeps loading the other agent's cursor eventually observes every store that has been
made. An assumption a claim about an endless run may take, never a step of the machine (log 18). R6 and R66 are silent on a
run with a reset, which sets counts and views to 0: here a reset ends the wait for the counts reached before it (DESIGN
CHOICE, log 23). -/
def FairViews (input : Nat → Input) (run : Nat → State) : Prop :=
  ((∀ t, ∃ u, t ≤ u ∧ LoadsHead input run u) → ∀ t k, k ≤ (run t).npop →
    ∃ u, t ≤ u ∧ (k ≤ (run u).vh ∨ (input u).turn = .reset)) ∧
  ((∀ t, ∃ u, t ≤ u ∧ LoadsTail input run u) → ∀ t k, k ≤ (run t).npush →
    ∃ u, t ≤ u ∧ (k ≤ (run u).vt ∨ (input u).turn = .reset))

end Sys2Proof.Machine
end

