-- ==== Sys2Proof/Certificates/Slice0/Obligations.lean ====
section
/-! DEFINITION. The statements about the block, taken from the spec's rules. `s.respond st lanes` is the state `s` with the
response of the acting port written and nothing else changed; `SameRing` spells that frame out. -/

open Sys2Proof Sys2Proof.Machine

/-! ## Decoding, encoding and the step -/

/-- R90, R94 to R98: command words written out from their fields, and words that are no command; and which depths have a
command (R86). -/
def Obligations.CommandWordsDecode : Prop :=
  decode 0x10000000#32 = .ok .hdrDec ∧ decode 0x11000000#32 = .ok .hdrEnc ∧
  decode 0x12000007#32 = .ok .hdrGetFrameLen8 ∧ decode 0x1300000F#32 = .ok .hdrSetEdv3 ∧
  decode 0x20000005#32 = .ok .pldUnpackR6 ∧ decode 0x2100001F#32 = .ok .pldPackR32 ∧
  decode 0x2080000F#32 = .ok .pldUnpackC16 ∧ decode 0x21800000#32 = .ok .pldPackC1 ∧
  decode 0x30000000#32 = .ok .rbPush ∧ decode 0x31000000#32 = .ok .rbPop ∧
  (∀ w ∈ [0x00000000#32, 0xFFFFFFFF#32, 0x40000000#32, 0x14000000#32, 0x10000001#32, 0x11000005#32, 0x12000010#32,
      0x13800000#32, 0x22000000#32, 0x20000004#32, 0x21000008#32, 0x20800009#32, 0x20800010#32, 0x2180001F#32,
      0x20000020#32, 0x20400000#32, 0x32000000#32, 0x30000001#32, 0x31800000#32], ∀ i, decode w ≠ .ok i) ∧
  (∀ b ≤ 64, (unpackRealInstr b).isSome = (packRealInstr b).isSome ∧
    ((unpackRealInstr b).isSome = true ↔ b ∈ [1, 2, 3, 4, 6, 7, 8] ∨ (11 ≤ b ∧ b ≤ 32))) ∧
  (∀ b ≤ 64, (unpackComplexInstr b).isSome = (packComplexInstr b).isSome ∧
    ((unpackComplexInstr b).isSome = true ↔ b ∈ [1, 2, 3, 4, 6, 7, 8] ∨ (11 ≤ b ∧ b ≤ 16)))

/-- R90: there are 120 commands, and among all 2^32 words the decoder answers a command on its own command word and on no
other. That the words are those of the table is what `encode` says. -/
def Obligations.DecodeAnswersExactlyTheOpcodeMap : Prop :=
  (∃ all : List Instr, all.Nodup ∧ all.length = 120 ∧ ∀ i, i ∈ all) ∧
  ∀ (w : Word) (i : Instr), decode w = .ok i ↔ w = encode i

/-- R344: a request whose word is no command, or a ring command on the wrong port, answers `ILLEGAL` with all other lanes
zero, and the ring, the views and the phases are as they were. -/
def Obligations.IllegalCommandAnswersIllegal : Prop :=
  ∀ (s : State) (p : Port) (draw : Nat) (r : Request) (rs : List Request),
    s.nextTurn = some (.move p draw) →
    (s.takeTurn p draw).portIdle = true →
    (s.takeTurn p draw).io.pending = r :: rs →
    (∀ i, decode r.cmd = .ok i → portAccepts p i = false) →
    ∃ t, step s = .next t ∧
      t = ((s.takeTurn p draw).taken r rs).respond .illegal (Lanes.zero s.params.slotWords) ∧
      t.io.rsp = some { status := .illegal, lanes := Lanes.zero s.params.slotWords } ∧ SameRing s t

/-- R13, R91: the turn of an idle port whose master presents a command runs that command's first step on the state in which
the turn and the request are taken. -/
def Obligations.StepRunsTheDecodedCommand : Prop :=
  ∀ (s : State) (p : Port) (draw : Nat) (r : Request) (rs : List Request) (i : Instr),
    s.nextTurn = some (.move p draw) →
    (s.takeTurn p draw).portIdle = true →
    (s.takeTurn p draw).io.pending = r :: rs →
    decode r.cmd = .ok i →
    step s = exec i ((s.takeTurn p draw).taken r rs)

/-- R21, R302, R310, R356, R376: the turn of a busy port goes on with `RB.PUSH` or `RB.POP`; the turn of an idle port without
a request changes nothing else. While a transaction is in flight there is a next turn, and when the schedule has ended it is
one of a busy port (log 22); with no turn to come the block waits. -/
def Obligations.StepGoesOnOrWaits : Prop :=
  (∀ (s : State) (draw : Nat), s.nextTurn = some (.move .prod draw) → s.prod.phase ≠ .idle →
    step s = exec .rbPush (s.takeTurn .prod draw)) ∧
  (∀ (s : State) (draw : Nat), s.nextTurn = some (.move .cons draw) → s.cons.phase ≠ .idle →
    step s = exec .rbPop (s.takeTurn .cons draw)) ∧
  (∀ (s : State) (p : Port) (draw : Nat), s.nextTurn = some (.move p draw) →
    (s.takeTurn p draw).portIdle = true → (s.takeTurn p draw).io.pending = [] →
    step s = .next (s.takeTurn p draw)) ∧
  (∀ (s : State) (turn : Turn) (rest : List Turn), s.sched = turn :: rest → s.nextTurn = some turn) ∧
  (∀ (s : State) (p : Port), s.sched = [] → 0 < s.stepsLeft p →
    ∃ q draw, s.nextTurn = some (.move q draw) ∧ 0 < s.stepsLeft q) ∧
  (∀ s : State, s.sched = [] → s.prod.phase = .idle → s.cons.phase = .idle → step s = .next s)

/-! ## Reset -/

/-- R371, R372: the cursors are 0 after reset, their distance is 0 and the ring is empty; and, by R374 and R375, the views and
the counters are 0 and both phases `IDLE`. Said of a block with any parameters. -/
def Obligations.ResetClearsTheRing : Prop :=
  ∀ p : Params,
    (State.resetWith p).params = p ∧ (State.resetWith p).head = 0 ∧ (State.resetWith p).tail = 0 ∧
    (State.resetWith p).vh = 0 ∧ (State.resetWith p).vt = 0 ∧ (State.resetWith p).npush = 0 ∧
    (State.resetWith p).npop = 0 ∧ (State.resetWith p).prod.phase = .idle ∧ (State.resetWith p).cons.phase = .idle ∧
    distance (State.resetWith p).params.capacity (State.resetWith p).head (State.resetWith p).tail = 0 ∧
    (State.resetWith p).queue = []

/-- R377: reset at any moment, in the middle of a transaction too: no response is given, both phases return to `IDLE`, the
ring is that of R371 to R375, what was queued is lost. Nothing is said of slot memory or of the latches. The model's choice: a
response that stands on an idle port is withdrawn too (log 9), and the rest of the schedule stays (logs 2 and 20). -/
def Obligations.ResetAbortsAtAnyMoment : Prop :=
  ∀ (s : State) (rest : List Turn), s.sched = .reset :: rest →
    ∃ t, step s = .next t ∧ t.params = s.params ∧ t.head = 0 ∧ t.tail = 0 ∧ t.vh = 0 ∧ t.vt = 0 ∧ t.npush = 0 ∧
      t.npop = 0 ∧ t.prod.phase = .idle ∧ t.cons.phase = .idle ∧ t.prodIO.rsp = none ∧ t.consIO.rsp = none ∧
      t.queue = [] ∧ t.sched = rest

/-! ## Header codec -/

/-- R111: `HDR.GET.<F>` answers `(W[wd] >> sh) & mask(wi)` for every field and every layout, changing nothing but the
response. -/
def Obligations.HdrGetAnswersStoredField : Prop :=
  ∀ (f : HdrField) (s : State), s.portIdle = true →
    exec (hdrGetInstr f) s = .next (s.respond .ok { Lanes.zero s.params.slotWords with
      v := BitVec.ofNat 32 (s.request.lanes.w[f.word].toNat / 2 ^ s.params.layout.shift f % 2 ^ f.width) })

/-- R116 to R131: under the default layout of R110, the sixteen extracts by their masks and shifts. The spec marks R116 to
R131 as derived; the default layout is R110 (log 15). -/
def Obligations.HdrGetUnderTheDefaultLayout : Prop :=
  ∀ s : State, s.portIdle = true → s.params.layout = HdrLayout.vdif →
    let w := s.request.lanes.w
    let answers := fun v : Word => Host.Outcome.next (φ := Fault) (ρ := Refusal)
      (s.respond .ok { Lanes.zero s.params.slotWords with v := v })
    exec .hdrGetInvalid s = answers ((w[0] >>> 31) &&& 0x00000001#32) ∧
    exec .hdrGetLegacy s = answers ((w[0] >>> 30) &&& 0x00000001#32) ∧
    exec .hdrGetSeconds s = answers ((w[0] >>> 0) &&& 0x3FFFFFFF#32) ∧
    exec .hdrGetRefEpoch s = answers ((w[1] >>> 24) &&& 0x0000003F#32) ∧
    exec .hdrGetFrameNo s = answers ((w[1] >>> 0) &&& 0x00FFFFFF#32) ∧
    exec .hdrGetVersion s = answers ((w[2] >>> 29) &&& 0x00000007#32) ∧
    exec .hdrGetLog2Chans s = answers ((w[2] >>> 24) &&& 0x0000001F#32) ∧
    exec .hdrGetFrameLen8 s = answers ((w[2] >>> 0) &&& 0x00FFFFFF#32) ∧
    exec .hdrGetComplex s = answers ((w[3] >>> 31) &&& 0x00000001#32) ∧
    exec .hdrGetBpsM1 s = answers ((w[3] >>> 26) &&& 0x0000001F#32) ∧
    exec .hdrGetThreadId s = answers ((w[3] >>> 16) &&& 0x000003FF#32) ∧
    exec .hdrGetStationId s = answers ((w[3] >>> 0) &&& 0x0000FFFF#32) ∧
    exec .hdrGetEdv0 s = answers w[4] ∧ exec .hdrGetEdv1 s = answers w[5] ∧
    exec .hdrGetEdv2 s = answers w[6] ∧ exec .hdrGetEdv3 s = answers w[7]

/-- R112, R132 to R147: `HDR.SET.<F>` ORs the low `wi` bits of `V` into the field's place, passes every other bit and word
through, and changes nothing but the response. The spec marks R132 to R147 as derived. -/
def Obligations.HdrSetOrsTheMaskedValue : Prop :=
  ∀ (f : HdrField) (s : State), s.portIdle = true →
    ∃ w : Image,
      exec (hdrSetInstr f) s = .next (s.respond .ok { Lanes.zero s.params.slotWords with w := w }) ∧
      (∀ k : Fin 8, k ≠ f.word → w[k] = s.request.lanes.w[k]) ∧
      ∀ j < 32, w[f.word].getLsbD j =
        (s.request.lanes.w[f.word].getLsbD j ||
          (decide (s.params.layout.shift f ≤ j ∧ j < s.params.layout.shift f + f.width) &&
            s.request.lanes.v.getLsbD (j - s.params.layout.shift f)))

/-- R132 to R147: under the default layout of R110, the sixteen OR-inserts by their masks and shifts. The spec marks R132 to
R147 as derived; the default layout is R110 (log 15). -/
def Obligations.HdrSetUnderTheDefaultLayout : Prop :=
  ∀ s : State, s.portIdle = true → s.params.layout = HdrLayout.vdif →
    let w := s.request.lanes.w
    let v := s.request.lanes.v
    let answers := fun (k : Fin 8) (placed : Word) => Host.Outcome.next (φ := Fault) (ρ := Refusal)
      (s.respond .ok { Lanes.zero s.params.slotWords with w := w.set k (w[k] ||| placed) })
    exec .hdrSetInvalid s = answers 0 ((v &&& 0x00000001#32) <<< 31) ∧
    exec .hdrSetLegacy s = answers 0 ((v &&& 0x00000001#32) <<< 30) ∧
    exec .hdrSetSeconds s = answers 0 ((v &&& 0x3FFFFFFF#32) <<< 0) ∧
    exec .hdrSetRefEpoch s = answers 1 ((v &&& 0x0000003F#32) <<< 24) ∧
    exec .hdrSetFrameNo s = answers 1 ((v &&& 0x00FFFFFF#32) <<< 0) ∧
    exec .hdrSetVersion s = answers 2 ((v &&& 0x00000007#32) <<< 29) ∧
    exec .hdrSetLog2Chans s = answers 2 ((v &&& 0x0000001F#32) <<< 24) ∧
    exec .hdrSetFrameLen8 s = answers 2 ((v &&& 0x00FFFFFF#32) <<< 0) ∧
    exec .hdrSetComplex s = answers 3 ((v &&& 0x00000001#32) <<< 31) ∧
    exec .hdrSetBpsM1 s = answers 3 ((v &&& 0x0000001F#32) <<< 26) ∧
    exec .hdrSetThreadId s = answers 3 ((v &&& 0x000003FF#32) <<< 16) ∧
    exec .hdrSetStationId s = answers 3 ((v &&& 0x0000FFFF#32) <<< 0) ∧
    exec .hdrSetEdv0 s = answers 4 v ∧ exec .hdrSetEdv1 s = answers 5 v ∧
    exec .hdrSetEdv2 s = answers 6 v ∧ exec .hdrSetEdv3 s = answers 7 v

/-- R114, R39: `HDR.DEC` answers the record: `is_valid` is `1 - INVALID`, every other lane its stored bits; for every layout,
changing nothing but the response. -/
def Obligations.HdrDecAnswersTheRecord : Prop :=
  ∀ s : State, s.portIdle = true →
    ∃ h : HdrRecord,
      exec .hdrDec s = .next (s.respond .ok { Lanes.zero s.params.slotWords with h := h }) ∧
      h.isValid.toNat = 1 - s.request.lanes.w[0].toNat / 2 ^ s.params.layout.shift .invalid % 2 ∧
      ∀ f : HdrField, f ≠ .invalid →
        (h.lane f).toNat = s.request.lanes.w[f.word].toNat / 2 ^ s.params.layout.shift f % 2 ^ f.width

/-- R115: `HDR.ENC` places the low `wi` bits of every lane at its field's place, the complement of bit 0 of `is_valid` at the
invalid bit, and 0 at every bit of no field; for every legal layout, changing nothing but the response. -/
def Obligations.HdrEncPlacesEveryField : Prop :=
  ∀ s : State, s.portIdle = true → s.params.layout.wf = true →
    ∃ w : Image,
      exec .hdrEnc s = .next (s.respond .ok { Lanes.zero s.params.slotWords with w := w }) ∧
      w[0].getLsbD (s.params.layout.shift .invalid) = !s.request.lanes.h.isValid.getLsbD 0 ∧
      (∀ f : HdrField, f ≠ .invalid → ∀ j < f.width,
        w[f.word].getLsbD (s.params.layout.shift f + j) = (s.request.lanes.h.lane f).getLsbD j) ∧
      ∀ (k : Fin 8) (j : Nat),
        (∀ f : HdrField, f.word = k → ¬(s.params.layout.shift f ≤ j ∧ j < s.params.layout.shift f + f.width)) →
        w[k].getLsbD j = false

/-- R115: under the default layout of R110, the eight words of a record by their masks and shifts. The default layout is R110
(log 15). -/
def Obligations.HdrEncUnderTheDefaultLayout : Prop :=
  ∀ s : State, s.portIdle = true → s.params.layout = HdrLayout.vdif →
    let h := s.request.lanes.h
    exec .hdrEnc s = .next (s.respond .ok { Lanes.zero s.params.slotWords with
      w := #v[((1#32 - (h.isValid &&& 1#32)) <<< 31) ||| ((h.legacy &&& 0x00000001#32) <<< 30)
                ||| (h.seconds &&& 0x3FFFFFFF#32),
              ((h.refEpoch &&& 0x0000003F#32) <<< 24) ||| (h.frameNo &&& 0x00FFFFFF#32),
              ((h.version &&& 0x00000007#32) <<< 29) ||| ((h.log2Chans &&& 0x0000001F#32) <<< 24)
                ||| (h.frameLen8 &&& 0x00FFFFFF#32),
              ((h.complex &&& 0x00000001#32) <<< 31) ||| ((h.bpsM1 &&& 0x0000001F#32) <<< 26)
                ||| ((h.threadId &&& 0x000003FF#32) <<< 16) ||| (h.stationId &&& 0x0000FFFF#32),
              h.edv0, h.edv1, h.edv2, h.edv3] })

/-- R153: decode after encode gives back every record within its widths, and any record with each lane reduced modulo `2^wi`.
The spec marks the second half as derived. -/
def Obligations.DecodeAfterEncodeIsTheRecord : Prop :=
  ∀ (s : State) (l l' : Lanes), s.portIdle = true → s.params.layout.wf = true →
    ∃ (w : Image) (h : HdrRecord),
      ask s .hdrEnc l = some { status := .ok, lanes := { Lanes.zero s.params.slotWords with w := w } } ∧
      ask s .hdrDec { l' with w := w } =
        some { status := .ok, lanes := { Lanes.zero s.params.slotWords with h := h } } ∧
      (l.h.inWidth = true → h = l.h) ∧
      ∀ f : HdrField, (h.lane f).toNat = (l.h.lane f).toNat % 2 ^ f.width

/-- R154: encode after decode gives back the image, but for bits 31:30 of word 1, which are cleared (default layout). The spec
marks the rule as derived; the default layout is R110 (log 15). -/
def Obligations.EncodeAfterDecodeClearsTheUnassignedBits : Prop :=
  ∀ (s : State) (l l' : Lanes), s.portIdle = true → s.params.layout = HdrLayout.vdif →
    ∃ h : HdrRecord,
      ask s .hdrDec l = some { status := .ok, lanes := { Lanes.zero s.params.slotWords with h := h } } ∧
      ask s .hdrEnc { l' with h := h } =
        some { status := .ok, lanes := { Lanes.zero s.params.slotWords with
          w := l.w.set 1 (l.w[1] &&& 0x3FFFFFFF#32) } }

/-- R155, first two sentences: get after set is the OR of the old field value and the masked new one, so the masked new one
where the field was zero; and every other field reads as before. The spec marks the rule as derived. -/
def Obligations.GetAfterSetIsTheOr : Prop :=
  ∀ (s : State) (f g : HdrField) (l l' : Lanes), s.portIdle = true → s.params.layout.wf = true →
    ∃ (w : Image) (old new : Word),
      ask s (hdrGetInstr g) l = some { status := .ok, lanes := { Lanes.zero s.params.slotWords with v := old } } ∧
      ask s (hdrSetInstr f) l = some { status := .ok, lanes := { Lanes.zero s.params.slotWords with w := w } } ∧
      ask s (hdrGetInstr g) { l' with w := w } =
        some { status := .ok, lanes := { Lanes.zero s.params.slotWords with v := new } } ∧
      (f = g → new.toNat = old.toNat ||| l.v.toNat % 2 ^ f.width) ∧
      (f = g → old = 0 → new.toNat = l.v.toNat % 2 ^ f.width) ∧
      (f ≠ g → new = old)

/-- R155: sets of different fields commute. The spec marks the rule as derived. -/
def Obligations.SetsOfDifferentFieldsCommute : Prop :=
  ∀ (s : State) (f g : HdrField) (l : Lanes) (vf vg : Word), s.portIdle = true → f ≠ g →
    ∃ wf wg w : Image,
      ask s (hdrSetInstr f) { l with v := vf } =
        some { status := .ok, lanes := { Lanes.zero s.params.slotWords with w := wf } } ∧
      ask s (hdrSetInstr g) { l with w := wf, v := vg } =
        some { status := .ok, lanes := { Lanes.zero s.params.slotWords with w := w } } ∧
      ask s (hdrSetInstr g) { l with v := vg } =
        some { status := .ok, lanes := { Lanes.zero s.params.slotWords with w := wg } } ∧
      ask s (hdrSetInstr f) { l with w := wg, v := vf } =
        some { status := .ok, lanes := { Lanes.zero s.params.slotWords with w := w } }

/-- R155: from the all-zero image, the sixteen sets in any order, with the lanes of a record, give what `HDR.ENC` gives. The
spec marks the rule as derived. -/
def Obligations.SetsInAnyOrderMakeTheEncoding : Prop :=
  ∀ (s : State) (l : Lanes) (order : List HdrField), s.portIdle = true → order.Perm HdrField.all →
    ∃ w : Image,
      setsFrom s l.h order (Vector.replicate 8 0) = some w ∧
      ask s .hdrEnc l = some { status := .ok, lanes := { Lanes.zero s.params.slotWords with w := w } }

/-- R156: get and decode agree on every field but the invalid flag, where one is 1 minus the other. The spec marks the rule as
derived. -/
def Obligations.GetAgreesWithDecode : Prop :=
  ∀ (s : State) (f : HdrField) (l : Lanes), s.portIdle = true →
    ∃ (v : Word) (h : HdrRecord),
      ask s (hdrGetInstr f) l = some { status := .ok, lanes := { Lanes.zero s.params.slotWords with v := v } } ∧
      ask s .hdrDec l = some { status := .ok, lanes := { Lanes.zero s.params.slotWords with h := h } } ∧
      (f ≠ .invalid → v = h.lane f) ∧ (f = .invalid → v.toNat = 1 - h.isValid.toNat)

/-! ## Payload codec -/

/-- R171: `PLD.UNPACK.R<b>` answers `N = floor(32/b)` and the `b`-bit slots of the payload word from its low end, zero in the
other lanes; every depth that has the command, changing nothing but the response. -/
def Obligations.UnpackRealAnswersTheSamples : Prop :=
  ∀ (b : Nat) (i : Instr) (s : State), unpackRealInstr b = some i → s.portIdle = true →
    ∃ smp : Vector Word 32,
      exec i s = .next (s.respond .ok { Lanes.zero s.params.slotWords with n := 32 / b, s := smp }) ∧
      ∀ (k : Nat) (hk : k < 32),
        smp[k].toNat = if k < 32 / b then s.request.lanes.pw.toNat / 2 ^ (b * k) % 2 ^ b else 0

/-- R172: `PLD.PACK.R<b>` answers `N = floor(32/b)` and the payload word whose bit `j` is bit `j mod b` of sample `j / b`
where `j < b * N`, and 0 above; so no other sample bit is read. Every depth that has the command, changing nothing but the
response. The spec marks part of the rule as derived. -/
def Obligations.PackRealPlacesTheSamples : Prop :=
  ∀ (b : Nat) (i : Instr) (s : State), packRealInstr b = some i → s.portIdle = true →
    ∃ pw : Word,
      exec i s = .next (s.respond .ok { Lanes.zero s.params.slotWords with n := 32 / b, pw := pw }) ∧
      ∀ j < 32, pw.getLsbD j =
        (decide (j < b * (32 / b)) && (s.request.lanes.s[j / b]?.getD 0).getLsbD (j % b))

/-- R173: pack after unpack masks the word to the bits the depth uses; unpack after pack masks every sample to `b` bits. The
spec marks the rule as derived. -/
def Obligations.RealRoundTrips : Prop :=
  ∀ (b : Nat) (u p : Instr) (s : State) (l l' : Lanes),
    unpackRealInstr b = some u → packRealInstr b = some p → s.portIdle = true →
    (∃ smp pw,
      ask s u l = some { status := .ok, lanes := { Lanes.zero s.params.slotWords with n := 32 / b, s := smp } } ∧
      ask s p { l' with s := smp } =
        some { status := .ok, lanes := { Lanes.zero s.params.slotWords with n := 32 / b, pw := pw } } ∧
      pw.toNat = l.pw.toNat % 2 ^ (b * (32 / b))) ∧
    (∃ pw smp,
      ask s p l = some { status := .ok, lanes := { Lanes.zero s.params.slotWords with n := 32 / b, pw := pw } } ∧
      ask s u { l' with pw := pw } =
        some { status := .ok, lanes := { Lanes.zero s.params.slotWords with n := 32 / b, s := smp } } ∧
      ∀ (k : Nat) (_ : k < 32), k < 32 / b → smp[k].toNat = l.s[k].toNat % 2 ^ b)

/-- R241: `PLD.UNPACK.C<b>` answers `N = floor(floor(32/b)/2)` and the `b`-bit slots of the payload word by turns in `I` and
`Q`, zero in the other lanes; every depth that has the command, changing nothing but the response. -/
def Obligations.UnpackComplexAnswersThePairs : Prop :=
  ∀ (b : Nat) (i : Instr) (s : State), unpackComplexInstr b = some i → s.portIdle = true →
    ∃ re im : Vector Word 16,
      exec i s = .next (s.respond .ok { Lanes.zero s.params.slotWords with n := 32 / b / 2, i := re, q := im }) ∧
      ∀ (k : Nat) (hk : k < 16),
        re[k].toNat = (if k < 32 / b / 2 then s.request.lanes.pw.toNat / 2 ^ (2 * b * k) % 2 ^ b else 0) ∧
        im[k].toNat = (if k < 32 / b / 2 then s.request.lanes.pw.toNat / 2 ^ (2 * b * k + b) % 2 ^ b else 0)

/-- R242: `PLD.PACK.C<b>` answers `N = floor(floor(32/b)/2)` and the payload word whose slot `2k` is `I[k]` and whose slot `2k
+ 1` is `Q[k]`, masked to `b` bits, and 0 above bit `2 * b * N`; every depth that has the command, changing nothing but the
response. -/
def Obligations.PackComplexPlacesThePairs : Prop :=
  ∀ (b : Nat) (i : Instr) (s : State), packComplexInstr b = some i → s.portIdle = true →
    ∃ pw : Word,
      exec i s = .next (s.respond .ok { Lanes.zero s.params.slotWords with n := 32 / b / 2, pw := pw }) ∧
      ∀ j < 32, pw.getLsbD j =
        (decide (j < 2 * b * (32 / b / 2)) &&
          (if j / b % 2 = 0 then (s.request.lanes.i[j / b / 2]?.getD 0).getLsbD (j % b)
           else (s.request.lanes.q[j / b / 2]?.getD 0).getLsbD (j % b)))

/-- R243: the round trips of the complex commands, and complex pack as real pack of the interleaved samples, the last lane 0
where the count of slots is odd. The spec marks the rule as derived. -/
def Obligations.ComplexRoundTrips : Prop :=
  ∀ (b : Nat) (u p r : Instr) (s : State) (l l' : Lanes),
    unpackComplexInstr b = some u → packComplexInstr b = some p → packRealInstr b = some r → s.portIdle = true →
    (∃ re im pw,
      ask s u l =
        some { status := .ok, lanes := { Lanes.zero s.params.slotWords with n := 32 / b / 2, i := re, q := im } } ∧
      ask s p { l' with i := re, q := im } =
        some { status := .ok, lanes := { Lanes.zero s.params.slotWords with n := 32 / b / 2, pw := pw } } ∧
      pw.toNat = l.pw.toNat % 2 ^ (2 * b * (32 / b / 2))) ∧
    (∃ pw re im,
      ask s p l =
        some { status := .ok, lanes := { Lanes.zero s.params.slotWords with n := 32 / b / 2, pw := pw } } ∧
      ask s u { l' with pw := pw } =
        some { status := .ok, lanes := { Lanes.zero s.params.slotWords with n := 32 / b / 2, i := re, q := im } } ∧
      (∀ (k : Nat) (_ : k < 16), k < 32 / b / 2 →
        re[k].toNat = l.i[k].toNat % 2 ^ b ∧ im[k].toNat = l.q[k].toNat % 2 ^ b) ∧
      ∀ smp : Vector Word 32,
        (∀ (k : Nat) (_ : k < 16), k < 32 / b / 2 → smp[2 * k] = l.i[k] ∧ smp[2 * k + 1] = l.q[k]) →
        (32 / b % 2 = 1 → smp[32 / b - 1]?.getD 0 = 0) →
        ask s r { l' with s := smp } =
          some { status := .ok, lanes := { Lanes.zero s.params.slotWords with n := 32 / b, pw := pw } })

/-- R244: the count of slots is odd at complex depth 6 only; there the complex unpack neither returns nor refuses bits 31:24,
the real unpack returns bits 29:24 as its fifth sample, and the complex pack writes them as 0. -/
def Obligations.FifthSlotIsForTheRealPath : Prop :=
  (∀ (b : Nat) (i : Instr), unpackComplexInstr b = some i → (32 / b % 2 = 1 ↔ b = 6)) ∧
  ∀ (s : State) (l : Lanes), s.portIdle = true →
    (∃ re im : Vector Word 16, ∀ pw' : Word, (∀ j < 24, pw'.getLsbD j = l.pw.getLsbD j) →
      ask s .pldUnpackC6 { l with pw := pw' } =
        some { status := .ok, lanes := { Lanes.zero s.params.slotWords with n := 2, i := re, q := im } }) ∧
    (∃ smp : Vector Word 32,
      ask s .pldUnpackR6 l =
        some { status := .ok, lanes := { Lanes.zero s.params.slotWords with n := 5, s := smp } } ∧
      smp[4].toNat = l.pw.toNat / 2 ^ 24 % 64) ∧
    (∃ pw : Word,
      ask s .pldPackC6 l =
        some { status := .ok, lanes := { Lanes.zero s.params.slotWords with n := 2, pw := pw } } ∧
      pw.toNat < 2 ^ 24)

/-! ## All codec commands -/

/-- R37: the answer of a codec command depends on the request lanes and the parameters alone: equal requests are answered
equally in any two states and on any two ports. -/
def Obligations.CodecDependsOnTheRequestAlone : Prop :=
  ∀ (i : Instr) (s s' : State), isCodec i = true → s.portIdle = true → s'.portIdle = true →
    s'.params = s.params → s'.request.lanes = s.request.lanes →
    ∃ l : Lanes, exec i s = .next (s.respond .ok l) ∧ exec i s' = .next (s'.respond .ok l)

/-- R33, R341: a codec command on an idle port always answers `OK`; whenever it has a next state, the ring, every word of slot
memory, the requests, the other port and the schedule are as they were. -/
def Obligations.CodecTouchesOnlyTheResponse : Prop :=
  ∀ (i : Instr) (s : State), isCodec i = true →
    (s.portIdle = true → ∃ t, exec i s = .next t ∧ ∃ l, t.io.rsp = some { status := .ok, lanes := l }) ∧
    ∀ t, exec i s = .next t →
      SameRing s t ∧ t.io.pending = s.io.pending ∧ t.io.req = s.io.req ∧
      (s.port = .prod → t.consIO = s.consIO) ∧ (s.port = .cons → t.prodIO = s.prodIO) ∧
      t.port = s.port ∧ t.draw = s.draw ∧ t.sched = s.sched ∧ t.resets = s.resets ∧ t.rested = s.rested

/-- The model's own stops (log 10, log 11, log 12), for what the spec gives no step: a command on a port whose transaction is
in flight, a push that does not carry `L` words, a slot outside slot memory. -/
def Obligations.StopsOfTheModel : Prop :=
  (∀ (i : Instr) (s : State), isCodec i = true → s.portIdle = false → exec i s = .refused .portBusy) ∧
  (∀ s : State, s.port = .cons → s.portIdle = false → exec .rbPush s = .refused .portBusy) ∧
  (∀ s : State, s.port = .prod → s.portIdle = false → exec .rbPop s = .refused .portBusy) ∧
  (∀ s : State, s.port = .prod → s.prod.phase = .idle → s.request.lanes.d.length ≠ s.params.slotWords →
    exec .rbPush s = .refused .payloadLength) ∧
  (∀ s : State, s.params.wf = true → s.port = .prod → s.prod.phase = .p4 → 2 * s.params.capacity ≤ s.prod.t →
    ∃ a, exec .rbPush s = .fault (.slotAddress a)) ∧
  (∀ s : State, s.params.wf = true → s.port = .cons → s.cons.phase = .c4 → 2 * s.params.capacity ≤ s.cons.h →
    ∃ a, exec .rbPop s = .fault (.slotAddress a))

/-- R92: each idle port accepts every codec command; the producer port accepts `RB.PUSH` (with the `L` words that R302 asks
for) and the consumer port `RB.POP`; `RB.POP` on the producer port and `RB.PUSH` on the consumer port answer `ILLEGAL` and
change nothing else. -/
def Obligations.PortRights : Prop :=
  ∀ s : State, s.portIdle = true →
    (∀ i : Instr, isCodec i = true → ∃ l, exec i s = .next (s.respond .ok l)) ∧
    (s.port = .prod →
      (s.request.lanes.d.length = s.params.slotWords → ∃ t, exec .rbPush s = .next t ∧ t.prod.phase = .p1) ∧
      exec .rbPop s = .next (s.respond .illegal (Lanes.zero s.params.slotWords)) ∧
      SameRing s (s.respond .illegal (Lanes.zero s.params.slotWords))) ∧
    (s.port = .cons →
      (∃ t, exec .rbPop s = .next t ∧ t.cons.phase = .c1) ∧
      exec .rbPush s = .next (s.respond .illegal (Lanes.zero s.params.slotWords)) ∧
      SameRing s (s.respond .illegal (Lanes.zero s.params.slotWords)))

/-! ## RB.PUSH, step by step -/

/-- R302, P0: an idle producer port that is presented `RB.PUSH` with `L` words latches them and goes to P1; the response is
withdrawn (log 9) and nothing else changes. -/
def Obligations.PushAcceptLatchesTheWords : Prop :=
  ∀ s : State, s.port = .prod → s.prod.phase = .idle → s.request.lanes.d.length = s.params.slotWords →
    exec .rbPush s = .next { s with
      prod := { s.prod with phase := .p1, d := s.request.lanes.d }
      prodIO := { s.prodIO with rsp := none } }

/-- R303, P1: the load of `head` chooses a count between the producer's view and `npop`, the newest where `STALE_VIEWS` is
false; nothing else changes. With stale views every such count is chosen by some free number of the turn. -/
def Obligations.PushLoadsHead : Prop :=
  ∀ s : State, s.port = .prod → s.prod.phase = .p1 → s.vh ≤ s.npop →
    (∃ k, s.vh ≤ k ∧ k ≤ s.npop ∧ (s.params.staleViews = false → k = s.npop) ∧
      exec .rbPush s = .next { s with
        vh := k, prod := { s.prod with phase := .p2, h := k % (2 * s.params.capacity) } }) ∧
    (s.params.staleViews = true → ∀ k, s.vh ≤ k → k ≤ s.npop →
      ∃ draw, exec .rbPush { s with draw := draw } = .next { s with
        draw := draw, vh := k, prod := { s.prod with phase := .p2, h := k % (2 * s.params.capacity) } })

/-- R304, P2, and R311, C1: the loads of an agent's own cursor return its current value; nothing else changes. -/
def Obligations.OwnCursorLoadsAreCurrent : Prop :=
  (∀ s : State, s.port = .prod → s.prod.phase = .p2 →
    exec .rbPush s = .next { s with prod := { s.prod with phase := .p3, t := s.tail } }) ∧
  (∀ s : State, s.port = .cons → s.cons.phase = .c1 →
    exec .rbPop s = .next { s with cons := { s.cons with phase := .c2, h := s.head } })

/-- R305, P3: where `distance(p.h, p.t) = C` the push ends with `FULL` and the request's words, nothing else changed;
otherwise it goes to P4. -/
def Obligations.PushFullTest : Prop :=
  ∀ s : State, s.port = .prod → s.prod.phase = .p3 → s.prod.d.length = s.params.slotWords →
    ((s.prod.t + 2 * s.params.capacity - s.prod.h) % (2 * s.params.capacity) = s.params.capacity →
      exec .rbPush s = .next { s with
        prod := { s.prod with phase := .idle }
        prodIO := { s.prodIO with rsp := some { status := .full, lanes :=
          { Lanes.zero s.params.slotWords with d := s.prod.d } } } }) ∧
    ((s.prod.t + 2 * s.params.capacity - s.prod.h) % (2 * s.params.capacity) ≠ s.params.capacity →
      exec .rbPush s = .next { s with prod := { s.prod with phase := .p4 } })

/-- R306, P4: the `L` words stand at the word addresses of the slot at `p.t`, every other word of slot memory reads as before,
and nothing else changes but the phase. The model's own: the `L` writes are one step (log 13), and slot memory keeps its
canonical form (log 5). -/
def Obligations.PushCopiesIntoTheSlot : Prop :=
  ∀ s : State, s.params.wf = true → s.port = .prod → s.prod.phase = .p4 → s.prod.t < 2 * s.params.capacity →
    s.prod.d.length = s.params.slotWords →
    ∃ m : Memory,
      exec .rbPush s = .next { s with mem := m, prod := { s.prod with phase := .p5 } } ∧
      (∀ j < s.params.slotWords,
        ({ s with mem := m } : State).readWord (slotOf s.params.capacity s.prod.t * s.params.slotWords + j) =
          s.prod.d[j]?.getD 0) ∧
      (∀ a, (a < slotOf s.params.capacity s.prod.t * s.params.slotWords ∨
          slotOf s.params.capacity s.prod.t * s.params.slotWords + s.params.slotWords ≤ a) →
        ({ s with mem := m } : State).readWord a = s.readWord a) ∧
      (Memory.wf s.mem → Memory.wf m)

/-- R307, P5: `tail` becomes `(p.t + 1) mod 2C`, the push is counted, `OK` is answered with all other lanes zero; nothing else
changes. No other step of the machine writes `tail`, reset apart. (Release ordering: log 14.) -/
def Obligations.PushPublishesTheSlot : Prop :=
  (∀ s : State, s.port = .prod → s.prod.phase = .p5 → s.prod.t < 2 * s.params.capacity →
    exec .rbPush s = .next { s with
      tail := (s.prod.t + 1) % (2 * s.params.capacity)
      npush := s.npush + 1
      prod := { s.prod with phase := .idle }
      prodIO := { s.prodIO with rsp := some { status := .ok, lanes := Lanes.zero s.params.slotWords } } }) ∧
  ∀ s t : State, step s = .next t → s.nextTurn ≠ some .reset →
    ¬(s.prod.phase = .p5 ∧ ∃ draw, s.nextTurn = some (.move .prod draw)) → t.tail = s.tail ∧ t.npush = s.npush

/-! ## RB.POP, step by step -/

/-- R310, C0: an idle consumer port that is presented `RB.POP` goes to C1, whatever the request lanes; the response is
withdrawn (log 9) and nothing else changes. -/
def Obligations.PopAcceptReadsNoLane : Prop :=
  ∀ s : State, s.port = .cons → s.cons.phase = .idle →
    exec .rbPop s = .next { s with
      cons := { s.cons with phase := .c1 }
      consIO := { s.consIO with rsp := none } }

/-- R312, C2: the load of `tail` chooses a count between the consumer's view and `npush`, the newest where `STALE_VIEWS` is
false; nothing else changes. With stale views every such count is chosen by some free number of the turn. -/
def Obligations.PopLoadsTail : Prop :=
  ∀ s : State, s.port = .cons → s.cons.phase = .c2 → s.vt ≤ s.npush →
    (∃ k, s.vt ≤ k ∧ k ≤ s.npush ∧ (s.params.staleViews = false → k = s.npush) ∧
      exec .rbPop s = .next { s with
        vt := k, cons := { s.cons with phase := .c3, t := k % (2 * s.params.capacity) } }) ∧
    (s.params.staleViews = true → ∀ k, s.vt ≤ k → k ≤ s.npush →
      ∃ draw, exec .rbPop { s with draw := draw } = .next { s with
        draw := draw, vt := k, cons := { s.cons with phase := .c3, t := k % (2 * s.params.capacity) } })

/-- R313, C3: where `c.h = c.t` the pop ends with `EMPTY` and zero lanes, nothing else changed; otherwise it goes to C4. The
test is on positions, not on slots. -/
def Obligations.PopEmptyTest : Prop :=
  ∀ s : State, s.port = .cons → s.cons.phase = .c3 →
    (s.cons.h = s.cons.t →
      exec .rbPop s = .next { s with
        cons := { s.cons with phase := .idle }
        consIO := { s.consIO with rsp := some { status := .empty, lanes := Lanes.zero s.params.slotWords } } }) ∧
    (s.cons.h ≠ s.cons.t → exec .rbPop s = .next { s with cons := { s.cons with phase := .c4 } })

/-- R314, C4: the `L` words at the addresses of the slot at `c.h` are latched; slot memory is not modified and nothing else
changes. -/
def Obligations.PopCopiesOutOfTheSlot : Prop :=
  ∀ s : State, s.params.wf = true → s.port = .cons → s.cons.phase = .c4 → s.cons.h < 2 * s.params.capacity →
    ∃ d : List Word,
      exec .rbPop s = .next { s with cons := { s.cons with phase := .c5, d := d } } ∧
      d.length = s.params.slotWords ∧
      ∀ j < s.params.slotWords,
        d[j]? = some (s.readWord (slotOf s.params.capacity s.cons.h * s.params.slotWords + j))

/-- R315, C5: `head` becomes `(c.h + 1) mod 2C`, the pop is counted, `OK` is answered with the words copied out; nothing else
changes. No other step of the machine writes `head`, reset apart. (Release ordering: log 14.) -/
def Obligations.PopReleasesTheSlot : Prop :=
  (∀ s : State, s.port = .cons → s.cons.phase = .c5 → s.cons.h < 2 * s.params.capacity →
    s.cons.d.length = s.params.slotWords →
    exec .rbPop s = .next { s with
      head := (s.cons.h + 1) % (2 * s.params.capacity)
      npop := s.npop + 1
      cons := { s.cons with phase := .idle }
      consIO := { s.consIO with rsp := some { status := .ok, lanes :=
        { Lanes.zero s.params.slotWords with d := s.cons.d } } } }) ∧
  ∀ s t : State, step s = .next t → s.nextTurn ≠ some .reset →
    ¬(s.cons.phase = .c5 ∧ ∃ draw, s.nextTurn = some (.move .cons draw)) → t.head = s.head ∧ t.npop = s.npop

/-! ## Positions -/

/-- R27, R28, R29: slot, distance and successor of positions in `[0, 2C)`, for any `C`, a power of two or not. The spec marks
the rules as derived. -/
def Obligations.PositionArithmetic : Prop :=
  ∀ c h t : Nat, h < 2 * c → t < 2 * c →
    slotOf c h < c ∧ slotOf c h = h % c ∧
    inc c h = (h + 1) % (2 * c) ∧ inc c h < 2 * c ∧
    distance c h t < 2 * c ∧ (distance c h t : Int) = ((t : Int) - h) % (2 * c) ∧
    (distance c h t = 0 ↔ h = t) ∧
    (distance c h t = c ↔ distance c t h = c)

/-! ## Invariants and whole transactions -/

/-- R317, R35, R318: every step of the machine keeps the invariant, whichever agent moves and whatever it observes. The spec
marks the rules as derived; the clauses about slot memory and latches are the model's. -/
def Obligations.StepKeepsTheRingInvariant : Prop :=
  ∀ s t : State, s.Inv → step s = .next t → t.Inv

/-- R374: the invariant holds after reset, for any legal parameters and for those of `State.reset`. -/
def Obligations.ResetSatisfiesTheRingInvariant : Prop :=
  (∀ p : Params, p.wf = true → (State.resetWith p).Inv) ∧ State.reset.Inv

/-- R318, R71: the ring is a first-in first-out queue. A step of the producer at P5 appends the words of the push and answers
`OK`; a step of the consumer at C5 removes the oldest element and answers `OK` with exactly its words; reset empties the
queue; no other step changes it. The spec derives R318 from R317 and R65. -/
def Obligations.RingIsAFifoQueue : Prop :=
  ∀ s t : State, s.Inv → step s = .next t →
    match s.nextTurn with
    | none => t.queue = s.queue
    | some .reset => t.queue = []
    | some (.move .prod _) =>
      if s.prod.phase = .p5 then
        t.queue = s.queue ++ [s.prod.d] ∧
        t.prodIO.rsp = some { status := .ok, lanes := Lanes.zero s.params.slotWords }
      else t.queue = s.queue
    | some (.move .cons _) =>
      if s.cons.phase = .c5 then
        s.queue = s.cons.d :: t.queue ∧
        t.consIO.rsp = some { status := .ok, lanes := { Lanes.zero s.params.slotWords with d := s.cons.d } }
      else t.queue = s.queue

/-- R71: over any run without reset, what was queued and what pushes answered `OK` put in is what pops answered `OK` gave out
and what is queued at the end, in that order. So from an empty ring, as after reset, the `i`-th pop that answers `OK` returns
the words of the `i`-th push that answered `OK`, which come before it. -/
def Obligations.DeliveredInOrder : Prop :=
  ∀ (n : Nat) (s t : State), s.Inv → (∀ turn ∈ s.sched.take n, turn ≠ .reset) → Host.Core.run Sys2Proof.core n s = .next t →
    s.queue ++ pushedWords n s = poppedWords n s ++ t.queue ∧
    (s.queue = [] → ∀ (i : Nat) (d : List Word), (poppedWords n s)[i]? = some d → (pushedWords n s)[i]? = some d)

/-- R65: while the producer is about to write a slot (P4) and the consumer about to read one (C4), no address is in both. The
spec marks the rule as derived. -/
def Obligations.NoDataRaceOnASlot : Prop :=
  ∀ s : State, s.Inv → s.prod.phase = .p4 → s.cons.phase = .c4 →
    slotOf s.params.capacity s.prod.t ≠ slotOf s.params.capacity s.cons.h ∧
    ∀ a, s.slotBase s.prod.t ≤ a → a < s.slotBase s.prod.t + s.params.slotWords →
      ¬(s.slotBase s.cons.h ≤ a ∧ a < s.slotBase s.cons.h + s.params.slotWords)

/-- R30, with what R28 and R317 derive: the distance of the cursors is `npush - npop`, the number of queued elements, at most
`C`; 0 just when the cursors are equal and the ring is empty. The spec marks R28 and R317 as derived. -/
def Obligations.OccupancyIsAtMostCapacity : Prop :=
  ∀ s : State, s.Inv →
    distance s.params.capacity s.head s.tail = s.npush - s.npop ∧
    distance s.params.capacity s.head s.tail = s.queue.length ∧
    s.queue.length ≤ s.params.capacity ∧
    (s.head = s.tail ↔ s.queue = [])

/-- R305, R313 in terms of the counters: at P3 the push ends with `FULL` just when `npush - vh = C`, always so when the ring
holds `C` elements; at C3 the pop ends with `EMPTY` just when `vt = npop`, always so when the ring holds none. The spec marks
these sentences as derived. -/
def Obligations.FullAndEmptyFollowTheViews : Prop :=
  (∀ s : State, s.Inv → s.port = .prod → s.prod.phase = .p3 →
    ∃ t, exec .rbPush s = .next t ∧
      (t.prod.phase = .idle ↔ s.npush = s.vh + s.params.capacity) ∧
      (t.prod.phase = .idle → ∃ l, t.prodIO.rsp = some { status := .full, lanes := l } ∧ l.d = s.prod.d) ∧
      (s.queue.length = s.params.capacity → t.prod.phase = .idle)) ∧
  (∀ s : State, s.Inv → s.port = .cons → s.cons.phase = .c3 →
    ∃ t, exec .rbPop s = .next t ∧
      (t.cons.phase = .idle ↔ s.vt = s.npop) ∧
      (t.cons.phase = .idle → ∃ l, t.consIO.rsp = some { status := .empty, lanes := l }) ∧
      (s.queue = [] → t.cons.phase = .idle))

/-- R316, U20 and the absence of stuck states: from a state with the invariant whose masters present pushes of `L` words,
every step has a next state, in which the masters still do. The spec marks the rule as derived. -/
def Obligations.StepNeverStops : Prop :=
  ∀ s : State, s.Inv → s.envOk → ∃ t, step s = .next t ∧ t.envOk

/-- R316, R356: a transaction in flight takes at most five more steps of its own port, each turn of that port bringing it
nearer to its response and no turn of the other port moving it. Every transaction in flight comes to its response, unless
reset intervenes: under any schedule of `n` turns within `n + 10` steps (log 22), and in every endless run. The spec marks the
rule as derived. -/
def Obligations.TransactionsAreBounded : Prop :=
  (∀ (s t : State) (p q : Port) (draw : Nat), s.Inv → s.nextTurn = some (.move q draw) → step s = .next t →
    s.stepsLeft p ≤ 5 ∧
    (p = q → 0 < s.stepsLeft p → t.stepsLeft p < s.stepsLeft p) ∧
    (p ≠ q → t.stepsLeft p = s.stepsLeft p)) ∧
  (∀ (s : State) (p : Port), s.Inv → s.envOk → 0 < s.stepsLeft p →
    ∃ (n : Nat) (t : State), n ≤ s.sched.length + 10 ∧ Host.Core.run Sys2Proof.core n s = .next t ∧ t.stepsLeft p = 0 ∧
      (t.responseOn p ≠ none ∨ .reset ∈ s.sched.take n)) ∧
  ∀ (input : Nat → Input) (run : Nat → State), IsRun input run → (run 0).Inv →
    ∀ (m : Nat) (p : Port), 0 < (run m).stepsLeft p →
      ∃ u, m < u ∧ (run u).stepsLeft p = 0 ∧
        ((run u).responseOn p ≠ none ∨ ∃ v, m ≤ v ∧ v < u ∧ (input v).turn = .reset)

/-- R34, R35: between resets the views and the counters never decrease. -/
def Obligations.ViewsAndCountersOnlyGrow : Prop :=
  ∀ s t : State, s.Inv → step s = .next t → s.nextTurn ≠ some .reset →
    s.vh ≤ t.vh ∧ s.vt ≤ t.vt ∧ s.npush ≤ t.npush ∧ s.npop ≤ t.npop ∧ t.npush ≤ s.npush + 1 ∧ t.npop ≤ s.npop + 1

/-- R23, R24, R33, R355, R25, R26: a turn of the producer writes nothing of the consumer's, and slot memory at P4 only; a turn
of the consumer writes nothing of the producer's and no word of slot memory; no step changes a parameter. -/
def Obligations.AgentsWriteOnlyTheirOwn : Prop :=
  ∀ s t : State, step s = .next t →
    t.params = s.params ∧
    (∀ draw, s.nextTurn = some (.move .prod draw) →
      t.head = s.head ∧ t.npop = s.npop ∧ t.vt = s.vt ∧ t.cons = s.cons ∧ t.consIO = s.consIO ∧ t.sched = s.sched.tail ∧
      (s.prod.phase ≠ .p4 → ∀ a, t.readWord a = s.readWord a) ∧ (s.prod.phase ≠ .p1 → t.vh = s.vh)) ∧
    (∀ draw, s.nextTurn = some (.move .cons draw) →
      t.tail = s.tail ∧ t.npush = s.npush ∧ t.vh = s.vh ∧ t.prod = s.prod ∧ t.prodIO = s.prodIO ∧ t.sched = s.sched.tail ∧
      (∀ a, t.readWord a = s.readWord a) ∧ (s.cons.phase ≠ .c2 → t.vt = s.vt))

/-- R301, R320: a whole `RB.PUSH` with no turn of the consumer in between. Where the producer's view leaves room, six steps
store the element and answer `OK`; where the ring holds `C` elements, four steps answer `FULL` with the words handed back, and
the queue, the cursors and slot memory are as they were. The turns are those of the model's schedule (log 2). -/
def Obligations.PushStoresOrHandsBack : Prop :=
  ∀ (s : State) (r : Request) (rs : List Request) (d0 d1 d2 d3 d4 d5 : Nat) (rest : List Turn),
    s.Inv → s.prod.phase = .idle → s.prodIO.pending = r :: rs → r.cmd = encode .rbPush → r.wf s.params = true →
    (s.npush < s.vh + s.params.capacity → s.sched = turnsOf .prod [d0, d1, d2, d3, d4, d5] ++ rest →
      ∃ t, Host.Core.run Sys2Proof.core 6 s = .next t ∧ t.sched = rest ∧ t.prod.phase = .idle ∧
        t.prodIO.rsp = some { status := .ok, lanes := Lanes.zero s.params.slotWords } ∧
        t.prodIO.pending = rs ∧ t.queue = s.queue ++ [r.lanes.d] ∧
        t.npush = s.npush + 1 ∧ t.tail = (s.tail + 1) % (2 * s.params.capacity) ∧
        t.head = s.head ∧ t.npop = s.npop ∧ t.vt = s.vt ∧ t.cons = s.cons ∧ t.consIO = s.consIO ∧
        ∀ a, (a < slotOf s.params.capacity s.tail * s.params.slotWords ∨
            slotOf s.params.capacity s.tail * s.params.slotWords + s.params.slotWords ≤ a) →
          t.readWord a = s.readWord a) ∧
    (s.npush = s.npop + s.params.capacity → s.sched = turnsOf .prod [d0, d1, d2, d3] ++ rest →
      ∃ t, Host.Core.run Sys2Proof.core 4 s = .next t ∧ t.sched = rest ∧ t.prod.phase = .idle ∧
        t.prodIO.rsp = some { status := .full, lanes := { Lanes.zero s.params.slotWords with d := r.lanes.d } } ∧
        t.prodIO.pending = rs ∧ t.queue = s.queue ∧
        t.npush = s.npush ∧ t.tail = s.tail ∧ t.head = s.head ∧ t.npop = s.npop ∧ t.vt = s.vt ∧ t.cons = s.cons ∧
        t.consIO = s.consIO ∧ ∀ a, t.readWord a = s.readWord a)

/-- R309, R319: a whole `RB.POP` with no turn of the producer in between. Where the consumer has seen an element, six steps
answer `OK` with the oldest element and remove it; where the ring holds none, four steps answer `EMPTY`. Slot memory is as it
was. The turns are those of the model's schedule (log 2). -/
def Obligations.PopReturnsTheOldestOrEmpty : Prop :=
  ∀ (s : State) (r : Request) (rs : List Request) (d0 d1 d2 d3 d4 d5 : Nat) (rest : List Turn),
    s.Inv → s.cons.phase = .idle → s.consIO.pending = r :: rs → r.cmd = encode .rbPop →
    (s.npop < s.vt → s.sched = turnsOf .cons [d0, d1, d2, d3, d4, d5] ++ rest →
      ∃ t d, Host.Core.run Sys2Proof.core 6 s = .next t ∧ t.sched = rest ∧ t.cons.phase = .idle ∧
        t.consIO.rsp = some { status := .ok, lanes := { Lanes.zero s.params.slotWords with d := d } } ∧
        t.consIO.pending = rs ∧ s.queue = d :: t.queue ∧
        t.npop = s.npop + 1 ∧ t.head = (s.head + 1) % (2 * s.params.capacity) ∧
        t.tail = s.tail ∧ t.npush = s.npush ∧ t.vh = s.vh ∧ t.prod = s.prod ∧ t.prodIO = s.prodIO ∧
        ∀ a, t.readWord a = s.readWord a) ∧
    (s.npush = s.npop → s.sched = turnsOf .cons [d0, d1, d2, d3] ++ rest →
      ∃ t, Host.Core.run Sys2Proof.core 4 s = .next t ∧ t.sched = rest ∧ t.cons.phase = .idle ∧
        t.consIO.rsp = some { status := .empty, lanes := Lanes.zero s.params.slotWords } ∧
        t.consIO.pending = rs ∧ t.queue = s.queue ∧
        t.npop = s.npop ∧ t.head = s.head ∧ t.tail = s.tail ∧ t.npush = s.npush ∧ t.vh = s.vh ∧ t.prod = s.prod ∧
        t.prodIO = s.prodIO ∧ ∀ a, t.readWord a = s.readWord a)

/-- R67: with stale views one execution, in which one push and one pop succeed, ends with `FULL` as the last answer to a push
and `EMPTY` as the last answer to a pop, while one element is queued. The spec marks the rule as derived; the execution is one
of the model's schedule and free numbers (logs 2 and 3). -/
def Obligations.StaleViewsAllowFullAndEmpty : Prop :=
  ∃ (s t : State) (n : Nat),
    s.Inv ∧ s.params.staleViews = true ∧ s.params.capacity = 2 ∧ s.npop = 0 ∧ s.npush = 1 ∧ s.prod.phase = .idle ∧
    s.cons.phase = .idle ∧ Host.Core.run Sys2Proof.core n s = .next t ∧
    t.npop = 1 ∧ t.npush = 2 ∧ t.queue.length = 1 ∧ t.prod.phase = .idle ∧ t.cons.phase = .idle ∧
    t.prodIO.rsp.map (·.status) = some .full ∧ t.consIO.rsp.map (·.status) = some .empty

/-- R66 with R62: where `STALE_VIEWS` is false, every endless run has the property `FAIR_VIEWS`. A consequence that the model
draws (log 18; what `FAIR_VIEWS` asks across a reset is log 23); the spec states `FAIR_VIEWS` as an assumption only. -/
def Obligations.StrongViewsAreFair : Prop :=
  ∀ (input : Nat → Input) (run : Nat → State), IsRun input run → (run 0).Inv → (run 0).params.staleViews = false →
    FairViews input run

/-! ## Sizes and the wire view -/

/-- R148 to R152: the quantities interpreted from a record. That the payload sizes are none for a frame shorter than its
header, where R151 leaves them undefined, is the model's choice (log 17). -/
def Obligations.FrameSizes : Prop :=
  ∀ h : HdrRecord,
    channels h = 2 ^ h.log2Chans.toNat ∧ bitsPerSample h = h.bpsM1.toNat + 1 ∧
    frameBytes h = 8 * h.frameLen8.toNat ∧ frameBytes h % 8 = 0 ∧ 4 * frameWords h = frameBytes h ∧
    (4 ≤ h.frameLen8.toNat →
      payloadBytes h = some (frameBytes h - 32) ∧ payloadWords h = some (2 * h.frameLen8.toNat - 8)) ∧
    (h.frameLen8.toNat < 4 → payloadBytes h = none ∧ payloadWords h = none) ∧
    (h.inWidth = true → channels h ≤ 2147483648 ∧ 1 ≤ bitsPerSample h ∧ bitsPerSample h ≤ 32 ∧
      frameBytes h ≤ 134217720 ∧ ∀ n, payloadWords h = some n → n ≤ 33554422)

/-- R50, R51, R52: the wire view. Byte `i` of a word is its bits `8i+7 : 8i`, four bytes give back their word; header word `k`
is at byte `4k` of a frame and payload word `j` at byte `32 + 4j`; the bytes of a frame give back its words. -/
def Obligations.WireViewIsLittleEndian : Prop :=
  (∀ (w : Word) (i j : Nat), i < 4 → j < 8 → (wordByte w i).getLsbD j = w.getLsbD (8 * i + j)) ∧
  (∀ w : Word, bytesWord (wordByte w 0) (wordByte w 1) (wordByte w 2) (wordByte w 3) = w) ∧
  (∀ (b0 b1 b2 b3 : Byte), wordBytes (bytesWord b0 b1 b2 b3) = [b0, b1, b2, b3]) ∧
  (∀ (hd : Image) (pl : List Word) (k : Fin 8) (i : Nat), i < 4 →
    (frameToBytes hd pl)[headerOffset k + i]? = some (wordByte hd[k] i)) ∧
  (∀ (hd : Image) (pl : List Word) (j : Nat) (w : Word) (i : Nat), pl[j]? = some w → i < 4 →
    (frameToBytes hd pl)[payloadOffset j + i]? = some (wordByte w i)) ∧
  (∀ (hd : Image) (pl : List Word), bytesToWords (frameToBytes hd pl) = hd.toList ++ pl)
end

