-- ==== Sys2Proof/Laws/Layout.lean ====
section
/-! SUPPORT. What a legal header layout guarantees (R110). -/

namespace Sys2Proof

theorem HdrField.width_le (f : HdrField) : f.width ≤ 32 := by
  cases f <;> decide

theorem HdrField.mem_all (f : HdrField) : f ∈ HdrField.all := by
  cases f <;> decide

/-- A field of a legal layout lies within its word. -/
theorem HdrLayout.fits {lay : HdrLayout} (h : lay.wf = true) (f : HdrField) : lay.shift f + f.width ≤ 32 := by
  have := List.all_eq_true.1 h f f.mem_all
  simp only [Bool.and_eq_true, decide_eq_true_eq] at this
  exact this.1

/-- Two fields of one word of a legal layout share no bit. -/
theorem HdrLayout.apart {lay : HdrLayout} (h : lay.wf = true) {f g : HdrField} (hfg : f ≠ g) (hw : f.word = g.word) :
    lay.shift f + f.width ≤ lay.shift g ∨ lay.shift g + g.width ≤ lay.shift f := by
  have := List.all_eq_true.1 h f f.mem_all
  simp only [Bool.and_eq_true] at this
  have := List.all_eq_true.1 this.2 g g.mem_all
  simpa [HdrLayout.disjoint, hfg, hw] using this

end Sys2Proof
end

