-- ==== Sys2Proof/Laws/State.lean ====
section
/-! SUPPORT. The state updates, one lemma per field they could touch, so that no proof unfolds one. -/

namespace Sys2Proof.Machine

/-! ## Port lanes -/

@[simp] theorem State.setIO_params (s : State) (io : PortIO) : (s.setIO io).params = s.params := rfl
@[simp] theorem State.setIO_head (s : State) (io : PortIO) : (s.setIO io).head = s.head := rfl
@[simp] theorem State.setIO_tail (s : State) (io : PortIO) : (s.setIO io).tail = s.tail := rfl
@[simp] theorem State.setIO_mem (s : State) (io : PortIO) : (s.setIO io).mem = s.mem := rfl
@[simp] theorem State.setIO_vh (s : State) (io : PortIO) : (s.setIO io).vh = s.vh := rfl
@[simp] theorem State.setIO_vt (s : State) (io : PortIO) : (s.setIO io).vt = s.vt := rfl
@[simp] theorem State.setIO_npush (s : State) (io : PortIO) : (s.setIO io).npush = s.npush := rfl
@[simp] theorem State.setIO_npop (s : State) (io : PortIO) : (s.setIO io).npop = s.npop := rfl
@[simp] theorem State.setIO_prod (s : State) (io : PortIO) : (s.setIO io).prod = s.prod := rfl
@[simp] theorem State.setIO_cons (s : State) (io : PortIO) : (s.setIO io).cons = s.cons := rfl
@[simp] theorem State.setIO_port (s : State) (io : PortIO) : (s.setIO io).port = s.port := rfl
@[simp] theorem State.setIO_draw (s : State) (io : PortIO) : (s.setIO io).draw = s.draw := rfl
@[simp] theorem State.setIO_sched (s : State) (io : PortIO) : (s.setIO io).sched = s.sched := rfl
@[simp] theorem State.setIO_resets (s : State) (io : PortIO) : (s.setIO io).resets = s.resets := rfl
@[simp] theorem State.setIO_rested (s : State) (io : PortIO) : (s.setIO io).rested = s.rested := rfl

@[simp] theorem State.io_setIO (s : State) (io : PortIO) : (s.setIO io).io = io := by
  cases h : s.port <;> simp [State.io, State.setIO, h]

/-- Setting the acting port's lanes leaves the producer port's alone when the consumer acts. -/
theorem State.setIO_prodIO_of_cons (s : State) (io : PortIO) (h : s.port = .cons) : (s.setIO io).prodIO = s.prodIO := by
  simp [State.setIO, h]

/-- Setting the acting port's lanes leaves the consumer port's alone when the producer acts. -/
theorem State.setIO_consIO_of_prod (s : State) (io : PortIO) (h : s.port = .prod) : (s.setIO io).consIO = s.consIO := by
  simp [State.setIO, h]

theorem State.setIO_prodIO_of_prod (s : State) (io : PortIO) (h : s.port = .prod) : (s.setIO io).prodIO = io := by
  simp [State.setIO, h]

theorem State.setIO_consIO_of_cons (s : State) (io : PortIO) (h : s.port = .cons) : (s.setIO io).consIO = io := by
  simp [State.setIO, h]

@[simp] theorem State.setIO_setIO (s : State) (io io' : PortIO) : (s.setIO io).setIO io' = s.setIO io' := by
  cases h : s.port <;> simp [State.setIO, h]

@[simp] theorem State.portIdle_setIO (s : State) (io : PortIO) : (s.setIO io).portIdle = s.portIdle := rfl

@[simp] theorem State.readWord_setIO (s : State) (io : PortIO) (a : Nat) : (s.setIO io).readWord a = s.readWord a := rfl

/-! ## Responses -/

@[simp] theorem State.respond_params (s : State) (st : Status) (l : Lanes) : (s.respond st l).params = s.params := rfl
@[simp] theorem State.respond_head (s : State) (st : Status) (l : Lanes) : (s.respond st l).head = s.head := rfl
@[simp] theorem State.respond_tail (s : State) (st : Status) (l : Lanes) : (s.respond st l).tail = s.tail := rfl
@[simp] theorem State.respond_mem (s : State) (st : Status) (l : Lanes) : (s.respond st l).mem = s.mem := rfl
@[simp] theorem State.respond_vh (s : State) (st : Status) (l : Lanes) : (s.respond st l).vh = s.vh := rfl
@[simp] theorem State.respond_vt (s : State) (st : Status) (l : Lanes) : (s.respond st l).vt = s.vt := rfl
@[simp] theorem State.respond_npush (s : State) (st : Status) (l : Lanes) : (s.respond st l).npush = s.npush := rfl
@[simp] theorem State.respond_npop (s : State) (st : Status) (l : Lanes) : (s.respond st l).npop = s.npop := rfl
@[simp] theorem State.respond_prod (s : State) (st : Status) (l : Lanes) : (s.respond st l).prod = s.prod := rfl
@[simp] theorem State.respond_cons (s : State) (st : Status) (l : Lanes) : (s.respond st l).cons = s.cons := rfl
@[simp] theorem State.respond_port (s : State) (st : Status) (l : Lanes) : (s.respond st l).port = s.port := rfl
@[simp] theorem State.respond_draw (s : State) (st : Status) (l : Lanes) : (s.respond st l).draw = s.draw := rfl
@[simp] theorem State.respond_sched (s : State) (st : Status) (l : Lanes) : (s.respond st l).sched = s.sched := rfl
@[simp] theorem State.respond_resets (s : State) (st : Status) (l : Lanes) : (s.respond st l).resets = s.resets := rfl
@[simp] theorem State.respond_rested (s : State) (st : Status) (l : Lanes) : (s.respond st l).rested = s.rested := rfl

/-- Giving a response writes the response of the acting port and nothing else. -/
@[simp] theorem State.io_respond (s : State) (st : Status) (l : Lanes) :
    (s.respond st l).io = { s.io with rsp := some { status := st, lanes := l } } := by
  simp [State.respond]

@[simp] theorem State.readWord_respond (s : State) (st : Status) (l : Lanes) (a : Nat) :
    (s.respond st l).readWord a = s.readWord a := rfl

@[simp] theorem State.awaitResponse_params (s : State) : (s.awaitResponse).params = s.params := rfl
@[simp] theorem State.awaitResponse_head (s : State) : (s.awaitResponse).head = s.head := rfl
@[simp] theorem State.awaitResponse_tail (s : State) : (s.awaitResponse).tail = s.tail := rfl
@[simp] theorem State.awaitResponse_mem (s : State) : (s.awaitResponse).mem = s.mem := rfl
@[simp] theorem State.awaitResponse_vh (s : State) : (s.awaitResponse).vh = s.vh := rfl
@[simp] theorem State.awaitResponse_vt (s : State) : (s.awaitResponse).vt = s.vt := rfl
@[simp] theorem State.awaitResponse_npush (s : State) : (s.awaitResponse).npush = s.npush := rfl
@[simp] theorem State.awaitResponse_npop (s : State) : (s.awaitResponse).npop = s.npop := rfl
@[simp] theorem State.awaitResponse_prod (s : State) : (s.awaitResponse).prod = s.prod := rfl
@[simp] theorem State.awaitResponse_cons (s : State) : (s.awaitResponse).cons = s.cons := rfl
@[simp] theorem State.awaitResponse_port (s : State) : (s.awaitResponse).port = s.port := rfl
@[simp] theorem State.awaitResponse_draw (s : State) : (s.awaitResponse).draw = s.draw := rfl
@[simp] theorem State.awaitResponse_sched (s : State) : (s.awaitResponse).sched = s.sched := rfl
@[simp] theorem State.awaitResponse_resets (s : State) : (s.awaitResponse).resets = s.resets := rfl
@[simp] theorem State.awaitResponse_rested (s : State) : (s.awaitResponse).rested = s.rested := rfl

@[simp] theorem State.io_awaitResponse (s : State) : s.awaitResponse.io = { s.io with rsp := none } := by
  simp [State.awaitResponse]

/-! ## Requests -/

@[simp] theorem State.withLanes_params (s : State) (l : Lanes) : (s.withLanes l).params = s.params := rfl
@[simp] theorem State.withLanes_head (s : State) (l : Lanes) : (s.withLanes l).head = s.head := rfl
@[simp] theorem State.withLanes_tail (s : State) (l : Lanes) : (s.withLanes l).tail = s.tail := rfl
@[simp] theorem State.withLanes_mem (s : State) (l : Lanes) : (s.withLanes l).mem = s.mem := rfl
@[simp] theorem State.withLanes_vh (s : State) (l : Lanes) : (s.withLanes l).vh = s.vh := rfl
@[simp] theorem State.withLanes_vt (s : State) (l : Lanes) : (s.withLanes l).vt = s.vt := rfl
@[simp] theorem State.withLanes_npush (s : State) (l : Lanes) : (s.withLanes l).npush = s.npush := rfl
@[simp] theorem State.withLanes_npop (s : State) (l : Lanes) : (s.withLanes l).npop = s.npop := rfl
@[simp] theorem State.withLanes_prod (s : State) (l : Lanes) : (s.withLanes l).prod = s.prod := rfl
@[simp] theorem State.withLanes_cons (s : State) (l : Lanes) : (s.withLanes l).cons = s.cons := rfl
@[simp] theorem State.withLanes_port (s : State) (l : Lanes) : (s.withLanes l).port = s.port := rfl
@[simp] theorem State.withLanes_draw (s : State) (l : Lanes) : (s.withLanes l).draw = s.draw := rfl
@[simp] theorem State.withLanes_sched (s : State) (l : Lanes) : (s.withLanes l).sched = s.sched := rfl
@[simp] theorem State.withLanes_resets (s : State) (l : Lanes) : (s.withLanes l).resets = s.resets := rfl
@[simp] theorem State.withLanes_rested (s : State) (l : Lanes) : (s.withLanes l).rested = s.rested := rfl

@[simp] theorem State.request_withLanes (s : State) (l : Lanes) :
    (s.withLanes l).request = { s.request with lanes := l } := by
  simp [State.withLanes, State.request]

@[simp] theorem State.portIdle_withLanes (s : State) (l : Lanes) : (s.withLanes l).portIdle = s.portIdle := rfl

@[simp] theorem State.zeroLanes_withLanes (s : State) (l : Lanes) : (s.withLanes l).zeroLanes = s.zeroLanes := rfl

@[simp] theorem State.taken_params (s : State) (r : Request) (rs : List Request) : (s.taken r rs).params = s.params := rfl
@[simp] theorem State.taken_head (s : State) (r : Request) (rs : List Request) : (s.taken r rs).head = s.head := rfl
@[simp] theorem State.taken_tail (s : State) (r : Request) (rs : List Request) : (s.taken r rs).tail = s.tail := rfl
@[simp] theorem State.taken_mem (s : State) (r : Request) (rs : List Request) : (s.taken r rs).mem = s.mem := rfl
@[simp] theorem State.taken_vh (s : State) (r : Request) (rs : List Request) : (s.taken r rs).vh = s.vh := rfl
@[simp] theorem State.taken_vt (s : State) (r : Request) (rs : List Request) : (s.taken r rs).vt = s.vt := rfl
@[simp] theorem State.taken_npush (s : State) (r : Request) (rs : List Request) : (s.taken r rs).npush = s.npush := rfl
@[simp] theorem State.taken_npop (s : State) (r : Request) (rs : List Request) : (s.taken r rs).npop = s.npop := rfl
@[simp] theorem State.taken_prod (s : State) (r : Request) (rs : List Request) : (s.taken r rs).prod = s.prod := rfl
@[simp] theorem State.taken_cons (s : State) (r : Request) (rs : List Request) : (s.taken r rs).cons = s.cons := rfl
@[simp] theorem State.taken_port (s : State) (r : Request) (rs : List Request) : (s.taken r rs).port = s.port := rfl
@[simp] theorem State.taken_draw (s : State) (r : Request) (rs : List Request) : (s.taken r rs).draw = s.draw := rfl
@[simp] theorem State.taken_sched (s : State) (r : Request) (rs : List Request) : (s.taken r rs).sched = s.sched := rfl
@[simp] theorem State.taken_resets (s : State) (r : Request) (rs : List Request) : (s.taken r rs).resets = s.resets := rfl
@[simp] theorem State.taken_rested (s : State) (r : Request) (rs : List Request) : (s.taken r rs).rested = s.rested := rfl

@[simp] theorem State.io_taken (s : State) (r : Request) (rs : List Request) :
    (s.taken r rs).io = { s.io with pending := rs, req := r } := by
  simp [State.taken]

@[simp] theorem State.request_taken (s : State) (r : Request) (rs : List Request) : (s.taken r rs).request = r := by
  simp [State.request]

@[simp] theorem State.portIdle_taken (s : State) (r : Request) (rs : List Request) :
    (s.taken r rs).portIdle = s.portIdle := rfl

/-! ## Turns and reset -/

@[simp] theorem State.takeTurn_params (s : State) (p : Port) (d : Nat) : (s.takeTurn p d).params = s.params := rfl
@[simp] theorem State.takeTurn_head (s : State) (p : Port) (d : Nat) : (s.takeTurn p d).head = s.head := rfl
@[simp] theorem State.takeTurn_tail (s : State) (p : Port) (d : Nat) : (s.takeTurn p d).tail = s.tail := rfl
@[simp] theorem State.takeTurn_mem (s : State) (p : Port) (d : Nat) : (s.takeTurn p d).mem = s.mem := rfl
@[simp] theorem State.takeTurn_vh (s : State) (p : Port) (d : Nat) : (s.takeTurn p d).vh = s.vh := rfl
@[simp] theorem State.takeTurn_vt (s : State) (p : Port) (d : Nat) : (s.takeTurn p d).vt = s.vt := rfl
@[simp] theorem State.takeTurn_npush (s : State) (p : Port) (d : Nat) : (s.takeTurn p d).npush = s.npush := rfl
@[simp] theorem State.takeTurn_npop (s : State) (p : Port) (d : Nat) : (s.takeTurn p d).npop = s.npop := rfl
@[simp] theorem State.takeTurn_prod (s : State) (p : Port) (d : Nat) : (s.takeTurn p d).prod = s.prod := rfl
@[simp] theorem State.takeTurn_cons (s : State) (p : Port) (d : Nat) : (s.takeTurn p d).cons = s.cons := rfl
@[simp] theorem State.takeTurn_port (s : State) (p : Port) (d : Nat) : (s.takeTurn p d).port = p := rfl
@[simp] theorem State.takeTurn_draw (s : State) (p : Port) (d : Nat) : (s.takeTurn p d).draw = d := rfl
@[simp] theorem State.takeTurn_sched (s : State) (p : Port) (d : Nat) : (s.takeTurn p d).sched = s.sched.tail := rfl
@[simp] theorem State.takeTurn_resets (s : State) (p : Port) (d : Nat) : (s.takeTurn p d).resets = s.resets := rfl
@[simp] theorem State.takeTurn_rested (s : State) (p : Port) (d : Nat) : (s.takeTurn p d).rested =
    if s.sched.isEmpty then s.rested + 1 else s.rested := rfl
@[simp] theorem State.takeTurn_prodIO (s : State) (p : Port) (d : Nat) : (s.takeTurn p d).prodIO = s.prodIO := rfl
@[simp] theorem State.takeTurn_consIO (s : State) (p : Port) (d : Nat) : (s.takeTurn p d).consIO = s.consIO := rfl

@[simp] theorem State.applyReset_params (s : State) (r : List Turn) : (s.applyReset r).params = s.params := rfl
@[simp] theorem State.applyReset_head (s : State) (r : List Turn) : (s.applyReset r).head = 0 := rfl
@[simp] theorem State.applyReset_tail (s : State) (r : List Turn) : (s.applyReset r).tail = 0 := rfl
@[simp] theorem State.applyReset_mem (s : State) (r : List Turn) : (s.applyReset r).mem = [] := rfl
@[simp] theorem State.applyReset_vh (s : State) (r : List Turn) : (s.applyReset r).vh = 0 := rfl
@[simp] theorem State.applyReset_vt (s : State) (r : List Turn) : (s.applyReset r).vt = 0 := rfl
@[simp] theorem State.applyReset_npush (s : State) (r : List Turn) : (s.applyReset r).npush = 0 := rfl
@[simp] theorem State.applyReset_npop (s : State) (r : List Turn) : (s.applyReset r).npop = 0 := rfl
@[simp] theorem State.applyReset_prod (s : State) (r : List Turn) : (s.applyReset r).prod = { s.prod with phase := .idle } := rfl
@[simp] theorem State.applyReset_cons (s : State) (r : List Turn) : (s.applyReset r).cons = { s.cons with phase := .idle } := rfl
@[simp] theorem State.applyReset_port (s : State) (r : List Turn) : (s.applyReset r).port = s.port := rfl
@[simp] theorem State.applyReset_draw (s : State) (r : List Turn) : (s.applyReset r).draw = s.draw := rfl
@[simp] theorem State.applyReset_sched (s : State) (r : List Turn) : (s.applyReset r).sched = r := rfl
@[simp] theorem State.applyReset_resets (s : State) (r : List Turn) : (s.applyReset r).resets = s.resets + 1 := rfl
@[simp] theorem State.applyReset_rested (s : State) (r : List Turn) : (s.applyReset r).rested = s.rested := rfl
@[simp] theorem State.applyReset_prodIO (s : State) (r : List Turn) : (s.applyReset r).prodIO = { s.prodIO with rsp := none } := rfl
@[simp] theorem State.applyReset_consIO (s : State) (r : List Turn) : (s.applyReset r).consIO = { s.consIO with rsp := none } := rfl

@[simp] theorem State.feed_params (s : State) (i : Input) : (s.feed i).params = s.params := rfl
@[simp] theorem State.feed_head (s : State) (i : Input) : (s.feed i).head = s.head := rfl
@[simp] theorem State.feed_tail (s : State) (i : Input) : (s.feed i).tail = s.tail := rfl
@[simp] theorem State.feed_mem (s : State) (i : Input) : (s.feed i).mem = s.mem := rfl
@[simp] theorem State.feed_vh (s : State) (i : Input) : (s.feed i).vh = s.vh := rfl
@[simp] theorem State.feed_vt (s : State) (i : Input) : (s.feed i).vt = s.vt := rfl
@[simp] theorem State.feed_npush (s : State) (i : Input) : (s.feed i).npush = s.npush := rfl
@[simp] theorem State.feed_npop (s : State) (i : Input) : (s.feed i).npop = s.npop := rfl
@[simp] theorem State.feed_prod (s : State) (i : Input) : (s.feed i).prod = s.prod := rfl
@[simp] theorem State.feed_cons (s : State) (i : Input) : (s.feed i).cons = s.cons := rfl
@[simp] theorem State.feed_port (s : State) (i : Input) : (s.feed i).port = s.port := rfl
@[simp] theorem State.feed_draw (s : State) (i : Input) : (s.feed i).draw = s.draw := rfl
@[simp] theorem State.feed_sched (s : State) (i : Input) : (s.feed i).sched = [i.turn] := rfl
@[simp] theorem State.feed_resets (s : State) (i : Input) : (s.feed i).resets = s.resets := rfl
@[simp] theorem State.feed_rested (s : State) (i : Input) : (s.feed i).rested = s.rested := rfl
@[simp] theorem State.feed_prodIO (s : State) (i : Input) : (s.feed i).prodIO = { s.prodIO with pending := s.prodIO.pending ++ i.prodRequests } := rfl
@[simp] theorem State.feed_consIO (s : State) (i : Input) : (s.feed i).consIO = { s.consIO with pending := s.consIO.pending ++ i.consRequests } := rfl

end Sys2Proof.Machine
end

