-- ==== Sys2Proof/Laws/Codec.lean ====
section
/-! SUPPORT. The codec units: what a codec command can do, and the bits of masks, fields and sample slots. -/

namespace Sys2Proof.Machine

/-- Everything a codec command can do: on an idle port it answers `OK` with the lanes its rule gives and changes nothing else;
on a busy port it is refused. -/
theorem State.codec_cases (s : State) (f : Params → Lanes → Lanes) :
    (s.portIdle = true ∧ s.codec f = .next (s.respond .ok (f s.params s.request.lanes))) ∨
    (s.portIdle = false ∧ s.codec f = .refused .portBusy) := by
  cases h : s.portIdle <;> simp [State.codec, h]

theorem State.codec_idle {s : State} (h : s.portIdle = true) (f : Params → Lanes → Lanes) :
    s.codec f = .next (s.respond .ok (f s.params s.request.lanes)) := by
  simp [State.codec, h]

/-! ## Families -/

/-- The meaning of `HDR.GET.<F>` is the field extract of the field. -/
theorem exec_hdrGet (f : HdrField) (s : State) : exec (hdrGetInstr f) s = hdrGet f s := by
  cases f <;> rfl

/-- The meaning of `HDR.SET.<F>` is the OR-insert of the field. -/
theorem exec_hdrSet (f : HdrField) (s : State) : exec (hdrSetInstr f) s = hdrSet f s := by
  cases f <;> rfl

/-- The meaning of `PLD.UNPACK.R<b>` is the general law at depth `b`. -/
theorem exec_unpackReal {b : Nat} {i : Instr} (h : unpackRealInstr b = some i) (s : State) : exec i s = pldUnpackReal b s := by
  unfold unpackRealInstr at h
  split at h <;> first | (obtain rfl := Option.some.inj h; rfl) | cases h

/-- A depth that has a `PLD.UNPACK.R<b>` command is a depth from 1 to 32. -/
theorem unpackReal_depth {b : Nat} {i : Instr} (h : unpackRealInstr b = some i) : 1 ≤ b ∧ b ≤ 32 := by
  unfold unpackRealInstr at h
  split at h <;> first | exact ⟨by decide, by decide⟩ | cases h

/-- The meaning of `PLD.PACK.R<b>` is the general law at depth `b`. -/
theorem exec_packReal {b : Nat} {i : Instr} (h : packRealInstr b = some i) (s : State) : exec i s = pldPackReal b s := by
  unfold packRealInstr at h
  split at h <;> first | (obtain rfl := Option.some.inj h; rfl) | cases h

/-- A depth that has a `PLD.PACK.R<b>` command is a depth from 1 to 32. -/
theorem packReal_depth {b : Nat} {i : Instr} (h : packRealInstr b = some i) : 1 ≤ b ∧ b ≤ 32 := by
  unfold packRealInstr at h
  split at h <;> first | exact ⟨by decide, by decide⟩ | cases h

/-- The meaning of `PLD.UNPACK.C<b>` is the general law at depth `b`. -/
theorem exec_unpackComplex {b : Nat} {i : Instr} (h : unpackComplexInstr b = some i) (s : State) : exec i s = pldUnpackComplex b s := by
  unfold unpackComplexInstr at h
  split at h <;> first | (obtain rfl := Option.some.inj h; rfl) | cases h

/-- A depth that has a `PLD.UNPACK.C<b>` command is a depth from 1 to 16. -/
theorem unpackComplex_depth {b : Nat} {i : Instr} (h : unpackComplexInstr b = some i) : 1 ≤ b ∧ b ≤ 16 := by
  unfold unpackComplexInstr at h
  split at h <;> first | exact ⟨by decide, by decide⟩ | cases h

/-- The meaning of `PLD.PACK.C<b>` is the general law at depth `b`. -/
theorem exec_packComplex {b : Nat} {i : Instr} (h : packComplexInstr b = some i) (s : State) : exec i s = pldPackComplex b s := by
  unfold packComplexInstr at h
  split at h <;> first | (obtain rfl := Option.some.inj h; rfl) | cases h

/-- A depth that has a `PLD.PACK.C<b>` command is a depth from 1 to 16. -/
theorem packComplex_depth {b : Nat} {i : Instr} (h : packComplexInstr b = some i) : 1 ≤ b ∧ b ≤ 16 := by
  unfold packComplexInstr at h
  split at h <;> first | exact ⟨by decide, by decide⟩ | cases h

/-- Every codec command belongs to one of the eight families. -/
theorem isCodec_families {i : Instr} (h : isCodec i = true) :
    i = .hdrDec ∨ i = .hdrEnc ∨ (∃ f, i = hdrGetInstr f) ∨ (∃ f, i = hdrSetInstr f) ∨
    (∃ b, unpackRealInstr b = some i) ∨ (∃ b, packRealInstr b = some i) ∨
    (∃ b, unpackComplexInstr b = some i) ∨ (∃ b, packComplexInstr b = some i) := by
  cases i
  case hdrDec => exact .inl rfl
  case hdrEnc => exact .inr (.inl rfl)
  case hdrGetInvalid => exact .inr (.inr (.inl (⟨.invalid, rfl⟩)))
  case hdrGetLegacy => exact .inr (.inr (.inl (⟨.legacy, rfl⟩)))
  case hdrGetSeconds => exact .inr (.inr (.inl (⟨.seconds, rfl⟩)))
  case hdrGetRefEpoch => exact .inr (.inr (.inl (⟨.refEpoch, rfl⟩)))
  case hdrGetFrameNo => exact .inr (.inr (.inl (⟨.frameNo, rfl⟩)))
  case hdrGetVersion => exact .inr (.inr (.inl (⟨.version, rfl⟩)))
  case hdrGetLog2Chans => exact .inr (.inr (.inl (⟨.log2Chans, rfl⟩)))
  case hdrGetFrameLen8 => exact .inr (.inr (.inl (⟨.frameLen8, rfl⟩)))
  case hdrGetComplex => exact .inr (.inr (.inl (⟨.complex, rfl⟩)))
  case hdrGetBpsM1 => exact .inr (.inr (.inl (⟨.bpsM1, rfl⟩)))
  case hdrGetThreadId => exact .inr (.inr (.inl (⟨.threadId, rfl⟩)))
  case hdrGetStationId => exact .inr (.inr (.inl (⟨.stationId, rfl⟩)))
  case hdrGetEdv0 => exact .inr (.inr (.inl (⟨.edv0, rfl⟩)))
  case hdrGetEdv1 => exact .inr (.inr (.inl (⟨.edv1, rfl⟩)))
  case hdrGetEdv2 => exact .inr (.inr (.inl (⟨.edv2, rfl⟩)))
  case hdrGetEdv3 => exact .inr (.inr (.inl (⟨.edv3, rfl⟩)))
  case hdrSetInvalid => exact .inr (.inr (.inr (.inl (⟨.invalid, rfl⟩))))
  case hdrSetLegacy => exact .inr (.inr (.inr (.inl (⟨.legacy, rfl⟩))))
  case hdrSetSeconds => exact .inr (.inr (.inr (.inl (⟨.seconds, rfl⟩))))
  case hdrSetRefEpoch => exact .inr (.inr (.inr (.inl (⟨.refEpoch, rfl⟩))))
  case hdrSetFrameNo => exact .inr (.inr (.inr (.inl (⟨.frameNo, rfl⟩))))
  case hdrSetVersion => exact .inr (.inr (.inr (.inl (⟨.version, rfl⟩))))
  case hdrSetLog2Chans => exact .inr (.inr (.inr (.inl (⟨.log2Chans, rfl⟩))))
  case hdrSetFrameLen8 => exact .inr (.inr (.inr (.inl (⟨.frameLen8, rfl⟩))))
  case hdrSetComplex => exact .inr (.inr (.inr (.inl (⟨.complex, rfl⟩))))
  case hdrSetBpsM1 => exact .inr (.inr (.inr (.inl (⟨.bpsM1, rfl⟩))))
  case hdrSetThreadId => exact .inr (.inr (.inr (.inl (⟨.threadId, rfl⟩))))
  case hdrSetStationId => exact .inr (.inr (.inr (.inl (⟨.stationId, rfl⟩))))
  case hdrSetEdv0 => exact .inr (.inr (.inr (.inl (⟨.edv0, rfl⟩))))
  case hdrSetEdv1 => exact .inr (.inr (.inr (.inl (⟨.edv1, rfl⟩))))
  case hdrSetEdv2 => exact .inr (.inr (.inr (.inl (⟨.edv2, rfl⟩))))
  case hdrSetEdv3 => exact .inr (.inr (.inr (.inl (⟨.edv3, rfl⟩))))
  case pldUnpackR1 => exact .inr (.inr (.inr (.inr (.inl (⟨1, rfl⟩)))))
  case pldPackR1 => exact .inr (.inr (.inr (.inr (.inr (.inl (⟨1, rfl⟩))))))
  case pldUnpackR2 => exact .inr (.inr (.inr (.inr (.inl (⟨2, rfl⟩)))))
  case pldPackR2 => exact .inr (.inr (.inr (.inr (.inr (.inl (⟨2, rfl⟩))))))
  case pldUnpackR3 => exact .inr (.inr (.inr (.inr (.inl (⟨3, rfl⟩)))))
  case pldPackR3 => exact .inr (.inr (.inr (.inr (.inr (.inl (⟨3, rfl⟩))))))
  case pldUnpackR4 => exact .inr (.inr (.inr (.inr (.inl (⟨4, rfl⟩)))))
  case pldPackR4 => exact .inr (.inr (.inr (.inr (.inr (.inl (⟨4, rfl⟩))))))
  case pldUnpackR6 => exact .inr (.inr (.inr (.inr (.inl (⟨6, rfl⟩)))))
  case pldPackR6 => exact .inr (.inr (.inr (.inr (.inr (.inl (⟨6, rfl⟩))))))
  case pldUnpackR7 => exact .inr (.inr (.inr (.inr (.inl (⟨7, rfl⟩)))))
  case pldPackR7 => exact .inr (.inr (.inr (.inr (.inr (.inl (⟨7, rfl⟩))))))
  case pldUnpackR8 => exact .inr (.inr (.inr (.inr (.inl (⟨8, rfl⟩)))))
  case pldPackR8 => exact .inr (.inr (.inr (.inr (.inr (.inl (⟨8, rfl⟩))))))
  case pldUnpackR11 => exact .inr (.inr (.inr (.inr (.inl (⟨11, rfl⟩)))))
  case pldPackR11 => exact .inr (.inr (.inr (.inr (.inr (.inl (⟨11, rfl⟩))))))
  case pldUnpackR12 => exact .inr (.inr (.inr (.inr (.inl (⟨12, rfl⟩)))))
  case pldPackR12 => exact .inr (.inr (.inr (.inr (.inr (.inl (⟨12, rfl⟩))))))
  case pldUnpackR13 => exact .inr (.inr (.inr (.inr (.inl (⟨13, rfl⟩)))))
  case pldPackR13 => exact .inr (.inr (.inr (.inr (.inr (.inl (⟨13, rfl⟩))))))
  case pldUnpackR14 => exact .inr (.inr (.inr (.inr (.inl (⟨14, rfl⟩)))))
  case pldPackR14 => exact .inr (.inr (.inr (.inr (.inr (.inl (⟨14, rfl⟩))))))
  case pldUnpackR15 => exact .inr (.inr (.inr (.inr (.inl (⟨15, rfl⟩)))))
  case pldPackR15 => exact .inr (.inr (.inr (.inr (.inr (.inl (⟨15, rfl⟩))))))
  case pldUnpackR16 => exact .inr (.inr (.inr (.inr (.inl (⟨16, rfl⟩)))))
  case pldPackR16 => exact .inr (.inr (.inr (.inr (.inr (.inl (⟨16, rfl⟩))))))
  case pldUnpackR17 => exact .inr (.inr (.inr (.inr (.inl (⟨17, rfl⟩)))))
  case pldPackR17 => exact .inr (.inr (.inr (.inr (.inr (.inl (⟨17, rfl⟩))))))
  case pldUnpackR18 => exact .inr (.inr (.inr (.inr (.inl (⟨18, rfl⟩)))))
  case pldPackR18 => exact .inr (.inr (.inr (.inr (.inr (.inl (⟨18, rfl⟩))))))
  case pldUnpackR19 => exact .inr (.inr (.inr (.inr (.inl (⟨19, rfl⟩)))))
  case pldPackR19 => exact .inr (.inr (.inr (.inr (.inr (.inl (⟨19, rfl⟩))))))
  case pldUnpackR20 => exact .inr (.inr (.inr (.inr (.inl (⟨20, rfl⟩)))))
  case pldPackR20 => exact .inr (.inr (.inr (.inr (.inr (.inl (⟨20, rfl⟩))))))
  case pldUnpackR21 => exact .inr (.inr (.inr (.inr (.inl (⟨21, rfl⟩)))))
  case pldPackR21 => exact .inr (.inr (.inr (.inr (.inr (.inl (⟨21, rfl⟩))))))
  case pldUnpackR22 => exact .inr (.inr (.inr (.inr (.inl (⟨22, rfl⟩)))))
  case pldPackR22 => exact .inr (.inr (.inr (.inr (.inr (.inl (⟨22, rfl⟩))))))
  case pldUnpackR23 => exact .inr (.inr (.inr (.inr (.inl (⟨23, rfl⟩)))))
  case pldPackR23 => exact .inr (.inr (.inr (.inr (.inr (.inl (⟨23, rfl⟩))))))
  case pldUnpackR24 => exact .inr (.inr (.inr (.inr (.inl (⟨24, rfl⟩)))))
  case pldPackR24 => exact .inr (.inr (.inr (.inr (.inr (.inl (⟨24, rfl⟩))))))
  case pldUnpackR25 => exact .inr (.inr (.inr (.inr (.inl (⟨25, rfl⟩)))))
  case pldPackR25 => exact .inr (.inr (.inr (.inr (.inr (.inl (⟨25, rfl⟩))))))
  case pldUnpackR26 => exact .inr (.inr (.inr (.inr (.inl (⟨26, rfl⟩)))))
  case pldPackR26 => exact .inr (.inr (.inr (.inr (.inr (.inl (⟨26, rfl⟩))))))
  case pldUnpackR27 => exact .inr (.inr (.inr (.inr (.inl (⟨27, rfl⟩)))))
  case pldPackR27 => exact .inr (.inr (.inr (.inr (.inr (.inl (⟨27, rfl⟩))))))
  case pldUnpackR28 => exact .inr (.inr (.inr (.inr (.inl (⟨28, rfl⟩)))))
  case pldPackR28 => exact .inr (.inr (.inr (.inr (.inr (.inl (⟨28, rfl⟩))))))
  case pldUnpackR29 => exact .inr (.inr (.inr (.inr (.inl (⟨29, rfl⟩)))))
  case pldPackR29 => exact .inr (.inr (.inr (.inr (.inr (.inl (⟨29, rfl⟩))))))
  case pldUnpackR30 => exact .inr (.inr (.inr (.inr (.inl (⟨30, rfl⟩)))))
  case pldPackR30 => exact .inr (.inr (.inr (.inr (.inr (.inl (⟨30, rfl⟩))))))
  case pldUnpackR31 => exact .inr (.inr (.inr (.inr (.inl (⟨31, rfl⟩)))))
  case pldPackR31 => exact .inr (.inr (.inr (.inr (.inr (.inl (⟨31, rfl⟩))))))
  case pldUnpackR32 => exact .inr (.inr (.inr (.inr (.inl (⟨32, rfl⟩)))))
  case pldPackR32 => exact .inr (.inr (.inr (.inr (.inr (.inl (⟨32, rfl⟩))))))
  case pldUnpackC1 => exact .inr (.inr (.inr (.inr (.inr (.inr (.inl (⟨1, rfl⟩)))))))
  case pldPackC1 => exact .inr (.inr (.inr (.inr (.inr (.inr (.inr (⟨1, rfl⟩)))))))
  case pldUnpackC2 => exact .inr (.inr (.inr (.inr (.inr (.inr (.inl (⟨2, rfl⟩)))))))
  case pldPackC2 => exact .inr (.inr (.inr (.inr (.inr (.inr (.inr (⟨2, rfl⟩)))))))
  case pldUnpackC3 => exact .inr (.inr (.inr (.inr (.inr (.inr (.inl (⟨3, rfl⟩)))))))
  case pldPackC3 => exact .inr (.inr (.inr (.inr (.inr (.inr (.inr (⟨3, rfl⟩)))))))
  case pldUnpackC4 => exact .inr (.inr (.inr (.inr (.inr (.inr (.inl (⟨4, rfl⟩)))))))
  case pldPackC4 => exact .inr (.inr (.inr (.inr (.inr (.inr (.inr (⟨4, rfl⟩)))))))
  case pldUnpackC6 => exact .inr (.inr (.inr (.inr (.inr (.inr (.inl (⟨6, rfl⟩)))))))
  case pldPackC6 => exact .inr (.inr (.inr (.inr (.inr (.inr (.inr (⟨6, rfl⟩)))))))
  case pldUnpackC7 => exact .inr (.inr (.inr (.inr (.inr (.inr (.inl (⟨7, rfl⟩)))))))
  case pldPackC7 => exact .inr (.inr (.inr (.inr (.inr (.inr (.inr (⟨7, rfl⟩)))))))
  case pldUnpackC8 => exact .inr (.inr (.inr (.inr (.inr (.inr (.inl (⟨8, rfl⟩)))))))
  case pldPackC8 => exact .inr (.inr (.inr (.inr (.inr (.inr (.inr (⟨8, rfl⟩)))))))
  case pldUnpackC11 => exact .inr (.inr (.inr (.inr (.inr (.inr (.inl (⟨11, rfl⟩)))))))
  case pldPackC11 => exact .inr (.inr (.inr (.inr (.inr (.inr (.inr (⟨11, rfl⟩)))))))
  case pldUnpackC12 => exact .inr (.inr (.inr (.inr (.inr (.inr (.inl (⟨12, rfl⟩)))))))
  case pldPackC12 => exact .inr (.inr (.inr (.inr (.inr (.inr (.inr (⟨12, rfl⟩)))))))
  case pldUnpackC13 => exact .inr (.inr (.inr (.inr (.inr (.inr (.inl (⟨13, rfl⟩)))))))
  case pldPackC13 => exact .inr (.inr (.inr (.inr (.inr (.inr (.inr (⟨13, rfl⟩)))))))
  case pldUnpackC14 => exact .inr (.inr (.inr (.inr (.inr (.inr (.inl (⟨14, rfl⟩)))))))
  case pldPackC14 => exact .inr (.inr (.inr (.inr (.inr (.inr (.inr (⟨14, rfl⟩)))))))
  case pldUnpackC15 => exact .inr (.inr (.inr (.inr (.inr (.inr (.inl (⟨15, rfl⟩)))))))
  case pldPackC15 => exact .inr (.inr (.inr (.inr (.inr (.inr (.inr (⟨15, rfl⟩)))))))
  case pldUnpackC16 => exact .inr (.inr (.inr (.inr (.inr (.inr (.inl (⟨16, rfl⟩)))))))
  case pldPackC16 => exact .inr (.inr (.inr (.inr (.inr (.inr (.inr (⟨16, rfl⟩)))))))
  case rbPush => cases h
  case rbPop => cases h

/-- Every codec command is a codec transaction: its result reads only the request lanes and the parameters (R37). -/
theorem exec_codec {i : Instr} (h : isCodec i = true) :
    ∃ f : Params → Lanes → Lanes, ∀ s, exec i s = s.codec f := by
  rcases isCodec_families h with rfl | rfl | ⟨f, rfl⟩ | ⟨f, rfl⟩ | ⟨b, h⟩ | ⟨b, h⟩ | ⟨b, h⟩ | ⟨b, h⟩
  · exact ⟨fun p r => { Lanes.zero p.slotWords with h := decodeHeader p.layout r.w }, fun _ => rfl⟩
  · exact ⟨fun p r => { Lanes.zero p.slotWords with w := encodeHeader p.layout r.h }, fun _ => rfl⟩
  · exact ⟨_, exec_hdrGet f⟩
  · exact ⟨_, exec_hdrSet f⟩
  · exact ⟨_, exec_unpackReal h⟩
  · exact ⟨_, exec_packReal h⟩
  · exact ⟨_, exec_unpackComplex h⟩
  · exact ⟨_, exec_packComplex h⟩

/-! ## Masks and fields -/

theorem toNat_mask {n : Nat} (h : n ≤ 32) : (mask n).toNat = 2 ^ n - 1 := by
  have : 2 ^ n ≤ 2 ^ 32 := Nat.pow_le_pow_right (by decide) h
  have := Nat.one_le_two_pow (n := n)
  rw [mask, BitVec.toNat_ofNat, Nat.mod_eq_of_lt (by omega)]

/-- Bit `j` of `mask(n)` is set just when `j < n`. -/
theorem getLsbD_mask {n : Nat} (h : n ≤ 32) (j : Nat) : (mask n).getLsbD j = decide (j < n) := by
  rw [BitVec.getLsbD, toNat_mask h, Nat.testBit_two_pow_sub_one]

/-- Masking is reduction modulo `2^n`. -/
theorem toNat_and_mask {n : Nat} (h : n ≤ 32) (v : Word) : (v &&& mask n).toNat = v.toNat % 2 ^ n := by
  rw [BitVec.toNat_and, toNat_mask h, Nat.and_two_pow_sub_one_eq_mod]

/-- `fld_get` as a number (R111). -/
theorem toNat_fldGet (lay : HdrLayout) (f : HdrField) (w : Image) :
    (fldGet lay f w).toNat = w[f.word].toNat / 2 ^ lay.shift f % 2 ^ f.width := by
  rw [fldGet, toNat_and_mask f.width_le, BitVec.toNat_ushiftRight, Nat.shiftRight_eq_div_pow]

/-- `fld_get` bit by bit (R111). -/
theorem getLsbD_fldGet (lay : HdrLayout) (f : HdrField) (w : Image) (j : Nat) :
    (fldGet lay f w).getLsbD j = (decide (j < f.width) && w[f.word].getLsbD (lay.shift f + j)) := by
  rw [fldGet, BitVec.getLsbD_and, getLsbD_mask f.width_le, BitVec.getLsbD_ushiftRight, Bool.and_comm]

/-- `fld_put` bit by bit (R112). -/
theorem getLsbD_fldPut (lay : HdrLayout) (f : HdrField) (v : Word) (j : Nat) :
    (fldPut lay f v).getLsbD j =
      (decide (j < 32) && (decide (lay.shift f ≤ j ∧ j < lay.shift f + f.width) && v.getLsbD (j - lay.shift f))) := by
  rw [fldPut, BitVec.getLsbD_shiftLeft, BitVec.getLsbD_and, getLsbD_mask f.width_le]
  by_cases h1 : lay.shift f ≤ j
  · have : (j - lay.shift f < f.width) = (j < lay.shift f + f.width) := propext (by omega)
    simp [h1, this, Nat.not_lt.2 h1, Bool.and_comm]
  · simp [h1, Nat.lt_of_not_le h1]

/-! ## Sample slots -/

/-- One sample slot as a number (R171). -/
theorem toNat_sampleGet {b : Nat} (h : b ≤ 32) (p : Nat) (pw : Word) :
    (sampleGet b p pw).toNat = pw.toNat / 2 ^ p % 2 ^ b := by
  rw [sampleGet, toNat_and_mask h, BitVec.toNat_ushiftRight, Nat.shiftRight_eq_div_pow]

/-- One sample slot bit by bit. -/
theorem getLsbD_sampleGet {b : Nat} (h : b ≤ 32) (p : Nat) (pw : Word) (j : Nat) :
    (sampleGet b p pw).getLsbD j = (decide (j < b) && pw.getLsbD (p + j)) := by
  rw [sampleGet, BitVec.getLsbD_and, getLsbD_mask h, BitVec.getLsbD_ushiftRight, Bool.and_comm]

/-- A placed sample bit by bit. -/
theorem getLsbD_samplePut {b : Nat} (h : b ≤ 32) (p : Nat) (v : Word) (j : Nat) :
    (samplePut b p v).getLsbD j = (decide (j < 32) && (decide (p ≤ j ∧ j < p + b) && v.getLsbD (j - p))) := by
  rw [samplePut, BitVec.getLsbD_shiftLeft, BitVec.getLsbD_and, getLsbD_mask h]
  by_cases h1 : p ≤ j
  · have : (j - p < b) = (j < p + b) := propext (by omega)
    simp [h1, this, Nat.not_lt.2 h1, Bool.and_comm]
  · simp [h1, Nat.lt_of_not_le h1]

/-- A bit of an OR of words is set just when it is set in one of them. -/
theorem getLsbD_orUpTo (f : Nat → Word) (n j : Nat) :
    (orUpTo f n).getLsbD j = true ↔ ∃ k < n, (f k).getLsbD j = true := by
  induction n with
  | zero => simp [orUpTo]
  | succ n ih =>
    rw [orUpTo, BitVec.getLsbD_or, Bool.or_eq_true, ih]
    constructor
    · rintro (⟨k, hk, h⟩ | h)
      · exact ⟨k, by omega, h⟩
      · exact ⟨n, by omega, h⟩
    · rintro ⟨k, hk, h⟩
      rcases Nat.lt_succ_iff_lt_or_eq.1 hk with hk | rfl
      · exact .inl ⟨k, hk, h⟩
      · exact .inr h

/-- The OR of samples placed in consecutive slots of `b` bits: bit `j` is bit `j mod b` of sample `j / b`. -/
theorem getLsbD_orUpTo_samples {b : Nat} (hb : 0 < b) (hb' : b ≤ 32) (v : Nat → Word) (n j : Nat) :
    (orUpTo (fun k => samplePut b (b * k) (v k)) n).getLsbD j =
      (decide (j < 32) && (decide (j < b * n) && (v (j / b)).getLsbD (j % b))) := by
  rw [Bool.eq_iff_iff, getLsbD_orUpTo]
  simp only [getLsbD_samplePut hb', Bool.and_eq_true, decide_eq_true_eq]
  constructor
  · rintro ⟨k, hk, h32, ⟨hl, hu⟩, hv⟩
    have hq : j / b = k := by
      apply Nat.div_eq_of_lt_le
      · rw [Nat.mul_comm]; exact hl
      · rw [Nat.succ_mul, Nat.mul_comm]; exact hu
    have hr : j % b = j - b * k := by
      have := Nat.mod_add_div j b
      rw [hq] at this; omega
    refine ⟨h32, ?_, ?_⟩
    · have : b * (k + 1) ≤ b * n := Nat.mul_le_mul_left b hk
      rw [Nat.mul_succ] at this; omega
    · rw [hq, hr]; exact hv
  · rintro ⟨h32, hn, hv⟩
    have hd := Nat.mod_add_div j b
    have hm := Nat.mod_lt j hb
    refine ⟨j / b, Nat.div_lt_of_lt_mul hn, h32, ⟨by omega, by omega⟩, ?_⟩
    rw [show j - b * (j / b) = j % b by omega]; exact hv

end Sys2Proof.Machine
end

