-- ==== Sys2Proof/Laws/Ask.lean ====
section
/-! SUPPORT. What a codec command answers to given lanes. -/

namespace Sys2Proof.Machine

/-- A codec transaction on an idle port answers `OK` with its result. -/
theorem ask_codec {s : State} {i : Instr} {f : Params → Lanes → Lanes} (hi : s.portIdle = true)
    (h : ∀ s, exec i s = s.codec f) (l : Lanes) : ask s i l = some { status := .ok, lanes := f s.params l } := by
  rw [ask, h, State.codec_idle (by simpa using hi)]
  simp [answer]

end Sys2Proof.Machine
end

