-- ==== Sys2Proof/Laws/Memory.lean ====
section
/-! SUPPORT. Slot memory: what a read sees after a write, and that every operation keeps the canonical form. -/

namespace Sys2Proof.Machine

/-- Read after one write: the written word at its address, the old word elsewhere. -/
@[simp] theorem Memory.read?_write (m : Memory) (a b : Nat) (w : Word) :
    Memory.read? (Memory.write m a w) b = if b = a then some w else Memory.read? m b := by
  induction m with
  | nil => simp [Memory.write, Memory.read?]
  | cons e m ih =>
    obtain ⟨c, v⟩ := e
    simp only [Memory.write]
    split
    · simp [Memory.read?]
    · split
      · subst_vars
        simp only [Memory.read?]
        split <;> rfl
      · simp only [Memory.read?, ih]
        split
        · split
          · omega
          · rfl
        · rfl

/-- Every entry after a write is the written one or an old one. -/
theorem Memory.mem_write {m : Memory} {a : Nat} {w : Word} {e : Nat × Word} (h : e ∈ Memory.write m a w) :
    e = (a, w) ∨ e ∈ m := by
  induction m with
  | nil => simpa [Memory.write] using h
  | cons f m ih =>
    obtain ⟨c, v⟩ := f
    simp only [Memory.write] at h
    split at h
    · simpa using h
    · split at h
      · rcases List.mem_cons.1 h with h | h
        · exact .inl h
        · exact .inr (List.mem_cons_of_mem _ h)
      · rcases List.mem_cons.1 h with h | h
        · exact .inr (h ▸ List.mem_cons_self)
        · exact (ih h).imp_right (List.mem_cons_of_mem _)

/-- A write keeps the canonical form. -/
theorem Memory.wf_write {m : Memory} (h : Memory.wf m) (a : Nat) (w : Word) : Memory.wf (Memory.write m a w) := by
  induction m with
  | nil => simp [Memory.write, Memory.wf]
  | cons e m ih =>
    obtain ⟨c, v⟩ := e
    obtain ⟨hc, hm⟩ := List.pairwise_cons.1 h
    simp only [Memory.write]
    split
    · refine List.pairwise_cons.2 ⟨fun e he => ?_, h⟩
      rcases List.mem_cons.1 he with rfl | he
      · assumption
      · exact Nat.lt_trans ‹a < c› (hc e he)
    · split
      · subst_vars
        exact List.pairwise_cons.2 ⟨hc, hm⟩
      · refine List.pairwise_cons.2 ⟨fun e he => ?_, ih hm⟩
        rcases Memory.mem_write he with rfl | he
        · show c < a
          omega
        · exact hc e he

/-- Read after writing consecutive words: the words in their range, the old word elsewhere. -/
theorem Memory.read?_writeWords (ws : List Word) (m : Memory) (a b : Nat) :
    Memory.read? (Memory.writeWords m a ws) b =
      if a ≤ b ∧ b < a + ws.length then ws[b - a]? else Memory.read? m b := by
  induction ws generalizing m a with
  | nil =>
    simp only [Memory.writeWords, List.length_nil, Nat.add_zero]
    split <;> first | omega | rfl
  | cons w ws ih =>
    rw [Memory.writeWords, ih, Memory.read?_write]
    by_cases h1 : b = a
    · subst h1; simp
    · by_cases h2 : a ≤ b ∧ b < a + (w :: ws).length
      · have h3 : a + 1 ≤ b ∧ b < a + 1 + ws.length := by simp at h2; omega
        rw [if_pos h3, if_pos h2, show b - a = (b - (a + 1)) + 1 by omega, List.getElem?_cons_succ]
      · have h3 : ¬(a + 1 ≤ b ∧ b < a + 1 + ws.length) := by simp at h2; omega
        rw [if_neg h3, if_neg h2, if_neg h1]

/-- Writing consecutive words keeps the canonical form. -/
theorem Memory.wf_writeWords (ws : List Word) {m : Memory} (h : Memory.wf m) (a : Nat) :
    Memory.wf (Memory.writeWords m a ws) := by
  induction ws generalizing m a with
  | nil => exact h
  | cons w ws ih => exact ih (Memory.wf_write h a w) (a + 1)

/-- Every entry after writing consecutive words is an old one or lies in their range. -/
theorem Memory.mem_writeWords (ws : List Word) {m : Memory} {a : Nat} {e : Nat × Word}
    (h : e ∈ Memory.writeWords m a ws) : e ∈ m ∨ (a ≤ e.1 ∧ e.1 < a + ws.length) := by
  induction ws generalizing m a with
  | nil => exact .inl h
  | cons w ws ih =>
    rcases ih h with h | h
    · rcases Memory.mem_write h with rfl | h
      · right; simp
      · exact .inl h
    · right; simp only [List.length_cons]; omega

/-- Reset leaves slot memory in canonical form. -/
theorem Memory.wf_reset (p : Params) : Memory.wf (State.resetWith p).mem :=
  List.Pairwise.nil

@[simp] theorem State.length_readWords (s : State) (a n : Nat) : (s.readWords a n).length = n := by
  simp [State.readWords]

/-- The lanes of a list that has exactly `l` words are the list. -/
theorem slotLanes_eq {l : Nat} {d : List Word} (h : d.length = l) : slotLanes l d = d := by
  subst h
  apply List.ext_getElem
  · simp [slotLanes]
  · intro j h₁ h₂
    simp [slotLanes, h₂]

@[simp] theorem length_slotLanes (l : Nat) (d : List Word) : (slotLanes l d).length = l := by
  simp [slotLanes]

end Sys2Proof.Machine
end

