-- ==== Sys2Proof/Laws/MicroSteps.lean ====
section
/-! SUPPORT. The micro-steps of the ring, one lemma per field of the state each leaves or writes. -/

namespace Sys2Proof.Machine

@[simp] theorem pushLatch_params (s : State) : (pushLatch s).params = s.params := rfl
@[simp] theorem pushLatch_head (s : State) : (pushLatch s).head = s.head := rfl
@[simp] theorem pushLatch_tail (s : State) : (pushLatch s).tail = s.tail := rfl
@[simp] theorem pushLatch_mem (s : State) : (pushLatch s).mem = s.mem := rfl
@[simp] theorem pushLatch_vh (s : State) : (pushLatch s).vh = s.vh := rfl
@[simp] theorem pushLatch_vt (s : State) : (pushLatch s).vt = s.vt := rfl
@[simp] theorem pushLatch_npush (s : State) : (pushLatch s).npush = s.npush := rfl
@[simp] theorem pushLatch_npop (s : State) : (pushLatch s).npop = s.npop := rfl
@[simp] theorem pushLatch_prod (s : State) : (pushLatch s).prod = { s.prod with phase := .p1, d := s.request.lanes.d } := rfl
@[simp] theorem pushLatch_cons (s : State) : (pushLatch s).cons = s.cons := rfl
@[simp] theorem pushLatch_port (s : State) : (pushLatch s).port = s.port := rfl
@[simp] theorem pushLatch_draw (s : State) : (pushLatch s).draw = s.draw := rfl
@[simp] theorem pushLatch_sched (s : State) : (pushLatch s).sched = s.sched := rfl
@[simp] theorem pushLatch_resets (s : State) : (pushLatch s).resets = s.resets := rfl
@[simp] theorem pushLatch_rested (s : State) : (pushLatch s).rested = s.rested := rfl

@[simp] theorem pushLoadHead_params (s : State) : (pushLoadHead s).params = s.params := rfl
@[simp] theorem pushLoadHead_head (s : State) : (pushLoadHead s).head = s.head := rfl
@[simp] theorem pushLoadHead_tail (s : State) : (pushLoadHead s).tail = s.tail := rfl
@[simp] theorem pushLoadHead_mem (s : State) : (pushLoadHead s).mem = s.mem := rfl
@[simp] theorem pushLoadHead_vh (s : State) : (pushLoadHead s).vh = s.loadOther s.vh s.npop := rfl
@[simp] theorem pushLoadHead_vt (s : State) : (pushLoadHead s).vt = s.vt := rfl
@[simp] theorem pushLoadHead_npush (s : State) : (pushLoadHead s).npush = s.npush := rfl
@[simp] theorem pushLoadHead_npop (s : State) : (pushLoadHead s).npop = s.npop := rfl
@[simp] theorem pushLoadHead_prod (s : State) : (pushLoadHead s).prod = { s.prod with phase := .p2, h := s.position (s.loadOther s.vh s.npop) } := rfl
@[simp] theorem pushLoadHead_cons (s : State) : (pushLoadHead s).cons = s.cons := rfl
@[simp] theorem pushLoadHead_port (s : State) : (pushLoadHead s).port = s.port := rfl
@[simp] theorem pushLoadHead_draw (s : State) : (pushLoadHead s).draw = s.draw := rfl
@[simp] theorem pushLoadHead_sched (s : State) : (pushLoadHead s).sched = s.sched := rfl
@[simp] theorem pushLoadHead_resets (s : State) : (pushLoadHead s).resets = s.resets := rfl
@[simp] theorem pushLoadHead_rested (s : State) : (pushLoadHead s).rested = s.rested := rfl
@[simp] theorem pushLoadHead_prodIO (s : State) : (pushLoadHead s).prodIO = s.prodIO := rfl
@[simp] theorem pushLoadHead_consIO (s : State) : (pushLoadHead s).consIO = s.consIO := rfl

@[simp] theorem pushLoadTail_params (s : State) : (pushLoadTail s).params = s.params := rfl
@[simp] theorem pushLoadTail_head (s : State) : (pushLoadTail s).head = s.head := rfl
@[simp] theorem pushLoadTail_tail (s : State) : (pushLoadTail s).tail = s.tail := rfl
@[simp] theorem pushLoadTail_mem (s : State) : (pushLoadTail s).mem = s.mem := rfl
@[simp] theorem pushLoadTail_vh (s : State) : (pushLoadTail s).vh = s.vh := rfl
@[simp] theorem pushLoadTail_vt (s : State) : (pushLoadTail s).vt = s.vt := rfl
@[simp] theorem pushLoadTail_npush (s : State) : (pushLoadTail s).npush = s.npush := rfl
@[simp] theorem pushLoadTail_npop (s : State) : (pushLoadTail s).npop = s.npop := rfl
@[simp] theorem pushLoadTail_prod (s : State) : (pushLoadTail s).prod = { s.prod with phase := .p3, t := s.tail } := rfl
@[simp] theorem pushLoadTail_cons (s : State) : (pushLoadTail s).cons = s.cons := rfl
@[simp] theorem pushLoadTail_port (s : State) : (pushLoadTail s).port = s.port := rfl
@[simp] theorem pushLoadTail_draw (s : State) : (pushLoadTail s).draw = s.draw := rfl
@[simp] theorem pushLoadTail_sched (s : State) : (pushLoadTail s).sched = s.sched := rfl
@[simp] theorem pushLoadTail_resets (s : State) : (pushLoadTail s).resets = s.resets := rfl
@[simp] theorem pushLoadTail_rested (s : State) : (pushLoadTail s).rested = s.rested := rfl
@[simp] theorem pushLoadTail_prodIO (s : State) : (pushLoadTail s).prodIO = s.prodIO := rfl
@[simp] theorem pushLoadTail_consIO (s : State) : (pushLoadTail s).consIO = s.consIO := rfl

@[simp] theorem pushCopy_params (s : State) : (pushCopy s).params = s.params := rfl
@[simp] theorem pushCopy_head (s : State) : (pushCopy s).head = s.head := rfl
@[simp] theorem pushCopy_tail (s : State) : (pushCopy s).tail = s.tail := rfl
@[simp] theorem pushCopy_mem (s : State) : (pushCopy s).mem = Memory.writeWords s.mem (s.slotBase s.prod.t) (slotLanes s.params.slotWords s.prod.d) := rfl
@[simp] theorem pushCopy_vh (s : State) : (pushCopy s).vh = s.vh := rfl
@[simp] theorem pushCopy_vt (s : State) : (pushCopy s).vt = s.vt := rfl
@[simp] theorem pushCopy_npush (s : State) : (pushCopy s).npush = s.npush := rfl
@[simp] theorem pushCopy_npop (s : State) : (pushCopy s).npop = s.npop := rfl
@[simp] theorem pushCopy_prod (s : State) : (pushCopy s).prod = { s.prod with phase := .p5 } := rfl
@[simp] theorem pushCopy_cons (s : State) : (pushCopy s).cons = s.cons := rfl
@[simp] theorem pushCopy_port (s : State) : (pushCopy s).port = s.port := rfl
@[simp] theorem pushCopy_draw (s : State) : (pushCopy s).draw = s.draw := rfl
@[simp] theorem pushCopy_sched (s : State) : (pushCopy s).sched = s.sched := rfl
@[simp] theorem pushCopy_resets (s : State) : (pushCopy s).resets = s.resets := rfl
@[simp] theorem pushCopy_rested (s : State) : (pushCopy s).rested = s.rested := rfl
@[simp] theorem pushCopy_prodIO (s : State) : (pushCopy s).prodIO = s.prodIO := rfl
@[simp] theorem pushCopy_consIO (s : State) : (pushCopy s).consIO = s.consIO := rfl

@[simp] theorem pushPublish_params (s : State) : (pushPublish s).params = s.params := rfl
@[simp] theorem pushPublish_head (s : State) : (pushPublish s).head = s.head := rfl
@[simp] theorem pushPublish_tail (s : State) : (pushPublish s).tail = inc s.params.capacity s.prod.t := rfl
@[simp] theorem pushPublish_mem (s : State) : (pushPublish s).mem = s.mem := rfl
@[simp] theorem pushPublish_vh (s : State) : (pushPublish s).vh = s.vh := rfl
@[simp] theorem pushPublish_vt (s : State) : (pushPublish s).vt = s.vt := rfl
@[simp] theorem pushPublish_npush (s : State) : (pushPublish s).npush = s.npush + 1 := rfl
@[simp] theorem pushPublish_npop (s : State) : (pushPublish s).npop = s.npop := rfl
@[simp] theorem pushPublish_prod (s : State) : (pushPublish s).prod = { s.prod with phase := .idle } := rfl
@[simp] theorem pushPublish_cons (s : State) : (pushPublish s).cons = s.cons := rfl
@[simp] theorem pushPublish_port (s : State) : (pushPublish s).port = s.port := rfl
@[simp] theorem pushPublish_draw (s : State) : (pushPublish s).draw = s.draw := rfl
@[simp] theorem pushPublish_sched (s : State) : (pushPublish s).sched = s.sched := rfl
@[simp] theorem pushPublish_resets (s : State) : (pushPublish s).resets = s.resets := rfl
@[simp] theorem pushPublish_rested (s : State) : (pushPublish s).rested = s.rested := rfl

@[simp] theorem popAccept_params (s : State) : (popAccept s).params = s.params := rfl
@[simp] theorem popAccept_head (s : State) : (popAccept s).head = s.head := rfl
@[simp] theorem popAccept_tail (s : State) : (popAccept s).tail = s.tail := rfl
@[simp] theorem popAccept_mem (s : State) : (popAccept s).mem = s.mem := rfl
@[simp] theorem popAccept_vh (s : State) : (popAccept s).vh = s.vh := rfl
@[simp] theorem popAccept_vt (s : State) : (popAccept s).vt = s.vt := rfl
@[simp] theorem popAccept_npush (s : State) : (popAccept s).npush = s.npush := rfl
@[simp] theorem popAccept_npop (s : State) : (popAccept s).npop = s.npop := rfl
@[simp] theorem popAccept_prod (s : State) : (popAccept s).prod = s.prod := rfl
@[simp] theorem popAccept_cons (s : State) : (popAccept s).cons = { s.cons with phase := .c1 } := rfl
@[simp] theorem popAccept_port (s : State) : (popAccept s).port = s.port := rfl
@[simp] theorem popAccept_draw (s : State) : (popAccept s).draw = s.draw := rfl
@[simp] theorem popAccept_sched (s : State) : (popAccept s).sched = s.sched := rfl
@[simp] theorem popAccept_resets (s : State) : (popAccept s).resets = s.resets := rfl
@[simp] theorem popAccept_rested (s : State) : (popAccept s).rested = s.rested := rfl

@[simp] theorem popLoadHead_params (s : State) : (popLoadHead s).params = s.params := rfl
@[simp] theorem popLoadHead_head (s : State) : (popLoadHead s).head = s.head := rfl
@[simp] theorem popLoadHead_tail (s : State) : (popLoadHead s).tail = s.tail := rfl
@[simp] theorem popLoadHead_mem (s : State) : (popLoadHead s).mem = s.mem := rfl
@[simp] theorem popLoadHead_vh (s : State) : (popLoadHead s).vh = s.vh := rfl
@[simp] theorem popLoadHead_vt (s : State) : (popLoadHead s).vt = s.vt := rfl
@[simp] theorem popLoadHead_npush (s : State) : (popLoadHead s).npush = s.npush := rfl
@[simp] theorem popLoadHead_npop (s : State) : (popLoadHead s).npop = s.npop := rfl
@[simp] theorem popLoadHead_prod (s : State) : (popLoadHead s).prod = s.prod := rfl
@[simp] theorem popLoadHead_cons (s : State) : (popLoadHead s).cons = { s.cons with phase := .c2, h := s.head } := rfl
@[simp] theorem popLoadHead_port (s : State) : (popLoadHead s).port = s.port := rfl
@[simp] theorem popLoadHead_draw (s : State) : (popLoadHead s).draw = s.draw := rfl
@[simp] theorem popLoadHead_sched (s : State) : (popLoadHead s).sched = s.sched := rfl
@[simp] theorem popLoadHead_resets (s : State) : (popLoadHead s).resets = s.resets := rfl
@[simp] theorem popLoadHead_rested (s : State) : (popLoadHead s).rested = s.rested := rfl
@[simp] theorem popLoadHead_prodIO (s : State) : (popLoadHead s).prodIO = s.prodIO := rfl
@[simp] theorem popLoadHead_consIO (s : State) : (popLoadHead s).consIO = s.consIO := rfl

@[simp] theorem popLoadTail_params (s : State) : (popLoadTail s).params = s.params := rfl
@[simp] theorem popLoadTail_head (s : State) : (popLoadTail s).head = s.head := rfl
@[simp] theorem popLoadTail_tail (s : State) : (popLoadTail s).tail = s.tail := rfl
@[simp] theorem popLoadTail_mem (s : State) : (popLoadTail s).mem = s.mem := rfl
@[simp] theorem popLoadTail_vh (s : State) : (popLoadTail s).vh = s.vh := rfl
@[simp] theorem popLoadTail_vt (s : State) : (popLoadTail s).vt = s.loadOther s.vt s.npush := rfl
@[simp] theorem popLoadTail_npush (s : State) : (popLoadTail s).npush = s.npush := rfl
@[simp] theorem popLoadTail_npop (s : State) : (popLoadTail s).npop = s.npop := rfl
@[simp] theorem popLoadTail_prod (s : State) : (popLoadTail s).prod = s.prod := rfl
@[simp] theorem popLoadTail_cons (s : State) : (popLoadTail s).cons = { s.cons with phase := .c3, t := s.position (s.loadOther s.vt s.npush) } := rfl
@[simp] theorem popLoadTail_port (s : State) : (popLoadTail s).port = s.port := rfl
@[simp] theorem popLoadTail_draw (s : State) : (popLoadTail s).draw = s.draw := rfl
@[simp] theorem popLoadTail_sched (s : State) : (popLoadTail s).sched = s.sched := rfl
@[simp] theorem popLoadTail_resets (s : State) : (popLoadTail s).resets = s.resets := rfl
@[simp] theorem popLoadTail_rested (s : State) : (popLoadTail s).rested = s.rested := rfl
@[simp] theorem popLoadTail_prodIO (s : State) : (popLoadTail s).prodIO = s.prodIO := rfl
@[simp] theorem popLoadTail_consIO (s : State) : (popLoadTail s).consIO = s.consIO := rfl

@[simp] theorem popCopy_params (s : State) : (popCopy s).params = s.params := rfl
@[simp] theorem popCopy_head (s : State) : (popCopy s).head = s.head := rfl
@[simp] theorem popCopy_tail (s : State) : (popCopy s).tail = s.tail := rfl
@[simp] theorem popCopy_mem (s : State) : (popCopy s).mem = s.mem := rfl
@[simp] theorem popCopy_vh (s : State) : (popCopy s).vh = s.vh := rfl
@[simp] theorem popCopy_vt (s : State) : (popCopy s).vt = s.vt := rfl
@[simp] theorem popCopy_npush (s : State) : (popCopy s).npush = s.npush := rfl
@[simp] theorem popCopy_npop (s : State) : (popCopy s).npop = s.npop := rfl
@[simp] theorem popCopy_prod (s : State) : (popCopy s).prod = s.prod := rfl
@[simp] theorem popCopy_cons (s : State) : (popCopy s).cons = { s.cons with phase := .c5, d := s.readWords (s.slotBase s.cons.h) s.params.slotWords } := rfl
@[simp] theorem popCopy_port (s : State) : (popCopy s).port = s.port := rfl
@[simp] theorem popCopy_draw (s : State) : (popCopy s).draw = s.draw := rfl
@[simp] theorem popCopy_sched (s : State) : (popCopy s).sched = s.sched := rfl
@[simp] theorem popCopy_resets (s : State) : (popCopy s).resets = s.resets := rfl
@[simp] theorem popCopy_rested (s : State) : (popCopy s).rested = s.rested := rfl
@[simp] theorem popCopy_prodIO (s : State) : (popCopy s).prodIO = s.prodIO := rfl
@[simp] theorem popCopy_consIO (s : State) : (popCopy s).consIO = s.consIO := rfl

@[simp] theorem popRelease_params (s : State) : (popRelease s).params = s.params := rfl
@[simp] theorem popRelease_head (s : State) : (popRelease s).head = inc s.params.capacity s.cons.h := rfl
@[simp] theorem popRelease_tail (s : State) : (popRelease s).tail = s.tail := rfl
@[simp] theorem popRelease_mem (s : State) : (popRelease s).mem = s.mem := rfl
@[simp] theorem popRelease_vh (s : State) : (popRelease s).vh = s.vh := rfl
@[simp] theorem popRelease_vt (s : State) : (popRelease s).vt = s.vt := rfl
@[simp] theorem popRelease_npush (s : State) : (popRelease s).npush = s.npush := rfl
@[simp] theorem popRelease_npop (s : State) : (popRelease s).npop = s.npop + 1 := rfl
@[simp] theorem popRelease_prod (s : State) : (popRelease s).prod = s.prod := rfl
@[simp] theorem popRelease_cons (s : State) : (popRelease s).cons = { s.cons with phase := .idle } := rfl
@[simp] theorem popRelease_port (s : State) : (popRelease s).port = s.port := rfl
@[simp] theorem popRelease_draw (s : State) : (popRelease s).draw = s.draw := rfl
@[simp] theorem popRelease_sched (s : State) : (popRelease s).sched = s.sched := rfl
@[simp] theorem popRelease_resets (s : State) : (popRelease s).resets = s.resets := rfl
@[simp] theorem popRelease_rested (s : State) : (popRelease s).rested = s.rested := rfl

/-- P3 on a full ring (R305). -/
theorem pushTest_full {s : State} (h : isFull s.params.capacity s.prod.h s.prod.t = true) :
    pushTest s = { s.respond .full { s.zeroLanes with d := slotLanes s.params.slotWords s.prod.d } with
      prod := { s.prod with phase := .idle } } := by
  simp [pushTest, h]

/-- P3 on a ring with room (R305). -/
theorem pushTest_room {s : State} (h : isFull s.params.capacity s.prod.h s.prod.t = false) :
    pushTest s = { s with prod := { s.prod with phase := .p4 } } := by
  simp [pushTest, h]

/-- C3 on an empty ring (R313). -/
theorem popTest_empty {s : State} (h : isEmpty s.cons.h s.cons.t = true) :
    popTest s = { s.respond .empty s.zeroLanes with cons := { s.cons with phase := .idle } } := by
  simp [popTest, h]

/-- C3 on a ring with an element (R313). -/
theorem popTest_element {s : State} (h : isEmpty s.cons.h s.cons.t = false) :
    popTest s = { s with cons := { s.cons with phase := .c4 } } := by
  simp [popTest, h]

end Sys2Proof.Machine
end

