-- ==== Sys2Proof/Laws/PerInstr.lean ====
section
/-! SUPPORT. Per-instruction lemmas: the command word of each instruction decodes to it (R90, R91). -/

namespace Sys2Proof.Laws.DecodeEncode

/-- The command word of an instruction decodes to that instruction. -/
def Statement (i : Instr) : Prop :=
  decode (encode i) = .ok i

theorem hdrDec : Statement .hdrDec := rfl
theorem hdrEnc : Statement .hdrEnc := rfl
theorem hdrGetInvalid : Statement .hdrGetInvalid := rfl
theorem hdrGetLegacy : Statement .hdrGetLegacy := rfl
theorem hdrGetSeconds : Statement .hdrGetSeconds := rfl
theorem hdrGetRefEpoch : Statement .hdrGetRefEpoch := rfl
theorem hdrGetFrameNo : Statement .hdrGetFrameNo := rfl
theorem hdrGetVersion : Statement .hdrGetVersion := rfl
theorem hdrGetLog2Chans : Statement .hdrGetLog2Chans := rfl
theorem hdrGetFrameLen8 : Statement .hdrGetFrameLen8 := rfl
theorem hdrGetComplex : Statement .hdrGetComplex := rfl
theorem hdrGetBpsM1 : Statement .hdrGetBpsM1 := rfl
theorem hdrGetThreadId : Statement .hdrGetThreadId := rfl
theorem hdrGetStationId : Statement .hdrGetStationId := rfl
theorem hdrGetEdv0 : Statement .hdrGetEdv0 := rfl
theorem hdrGetEdv1 : Statement .hdrGetEdv1 := rfl
theorem hdrGetEdv2 : Statement .hdrGetEdv2 := rfl
theorem hdrGetEdv3 : Statement .hdrGetEdv3 := rfl
theorem hdrSetInvalid : Statement .hdrSetInvalid := rfl
theorem hdrSetLegacy : Statement .hdrSetLegacy := rfl
theorem hdrSetSeconds : Statement .hdrSetSeconds := rfl
theorem hdrSetRefEpoch : Statement .hdrSetRefEpoch := rfl
theorem hdrSetFrameNo : Statement .hdrSetFrameNo := rfl
theorem hdrSetVersion : Statement .hdrSetVersion := rfl
theorem hdrSetLog2Chans : Statement .hdrSetLog2Chans := rfl
theorem hdrSetFrameLen8 : Statement .hdrSetFrameLen8 := rfl
theorem hdrSetComplex : Statement .hdrSetComplex := rfl
theorem hdrSetBpsM1 : Statement .hdrSetBpsM1 := rfl
theorem hdrSetThreadId : Statement .hdrSetThreadId := rfl
theorem hdrSetStationId : Statement .hdrSetStationId := rfl
theorem hdrSetEdv0 : Statement .hdrSetEdv0 := rfl
theorem hdrSetEdv1 : Statement .hdrSetEdv1 := rfl
theorem hdrSetEdv2 : Statement .hdrSetEdv2 := rfl
theorem hdrSetEdv3 : Statement .hdrSetEdv3 := rfl
theorem pldUnpackR1 : Statement .pldUnpackR1 := rfl
theorem pldPackR1 : Statement .pldPackR1 := rfl
theorem pldUnpackR2 : Statement .pldUnpackR2 := rfl
theorem pldPackR2 : Statement .pldPackR2 := rfl
theorem pldUnpackR3 : Statement .pldUnpackR3 := rfl
theorem pldPackR3 : Statement .pldPackR3 := rfl
theorem pldUnpackR4 : Statement .pldUnpackR4 := rfl
theorem pldPackR4 : Statement .pldPackR4 := rfl
theorem pldUnpackR6 : Statement .pldUnpackR6 := rfl
theorem pldPackR6 : Statement .pldPackR6 := rfl
theorem pldUnpackR7 : Statement .pldUnpackR7 := rfl
theorem pldPackR7 : Statement .pldPackR7 := rfl
theorem pldUnpackR8 : Statement .pldUnpackR8 := rfl
theorem pldPackR8 : Statement .pldPackR8 := rfl
theorem pldUnpackR11 : Statement .pldUnpackR11 := rfl
theorem pldPackR11 : Statement .pldPackR11 := rfl
theorem pldUnpackR12 : Statement .pldUnpackR12 := rfl
theorem pldPackR12 : Statement .pldPackR12 := rfl
theorem pldUnpackR13 : Statement .pldUnpackR13 := rfl
theorem pldPackR13 : Statement .pldPackR13 := rfl
theorem pldUnpackR14 : Statement .pldUnpackR14 := rfl
theorem pldPackR14 : Statement .pldPackR14 := rfl
theorem pldUnpackR15 : Statement .pldUnpackR15 := rfl
theorem pldPackR15 : Statement .pldPackR15 := rfl
theorem pldUnpackR16 : Statement .pldUnpackR16 := rfl
theorem pldPackR16 : Statement .pldPackR16 := rfl
theorem pldUnpackR17 : Statement .pldUnpackR17 := rfl
theorem pldPackR17 : Statement .pldPackR17 := rfl
theorem pldUnpackR18 : Statement .pldUnpackR18 := rfl
theorem pldPackR18 : Statement .pldPackR18 := rfl
theorem pldUnpackR19 : Statement .pldUnpackR19 := rfl
theorem pldPackR19 : Statement .pldPackR19 := rfl
theorem pldUnpackR20 : Statement .pldUnpackR20 := rfl
theorem pldPackR20 : Statement .pldPackR20 := rfl
theorem pldUnpackR21 : Statement .pldUnpackR21 := rfl
theorem pldPackR21 : Statement .pldPackR21 := rfl
theorem pldUnpackR22 : Statement .pldUnpackR22 := rfl
theorem pldPackR22 : Statement .pldPackR22 := rfl
theorem pldUnpackR23 : Statement .pldUnpackR23 := rfl
theorem pldPackR23 : Statement .pldPackR23 := rfl
theorem pldUnpackR24 : Statement .pldUnpackR24 := rfl
theorem pldPackR24 : Statement .pldPackR24 := rfl
theorem pldUnpackR25 : Statement .pldUnpackR25 := rfl
theorem pldPackR25 : Statement .pldPackR25 := rfl
theorem pldUnpackR26 : Statement .pldUnpackR26 := rfl
theorem pldPackR26 : Statement .pldPackR26 := rfl
theorem pldUnpackR27 : Statement .pldUnpackR27 := rfl
theorem pldPackR27 : Statement .pldPackR27 := rfl
theorem pldUnpackR28 : Statement .pldUnpackR28 := rfl
theorem pldPackR28 : Statement .pldPackR28 := rfl
theorem pldUnpackR29 : Statement .pldUnpackR29 := rfl
theorem pldPackR29 : Statement .pldPackR29 := rfl
theorem pldUnpackR30 : Statement .pldUnpackR30 := rfl
theorem pldPackR30 : Statement .pldPackR30 := rfl
theorem pldUnpackR31 : Statement .pldUnpackR31 := rfl
theorem pldPackR31 : Statement .pldPackR31 := rfl
theorem pldUnpackR32 : Statement .pldUnpackR32 := rfl
theorem pldPackR32 : Statement .pldPackR32 := rfl
theorem pldUnpackC1 : Statement .pldUnpackC1 := rfl
theorem pldPackC1 : Statement .pldPackC1 := rfl
theorem pldUnpackC2 : Statement .pldUnpackC2 := rfl
theorem pldPackC2 : Statement .pldPackC2 := rfl
theorem pldUnpackC3 : Statement .pldUnpackC3 := rfl
theorem pldPackC3 : Statement .pldPackC3 := rfl
theorem pldUnpackC4 : Statement .pldUnpackC4 := rfl
theorem pldPackC4 : Statement .pldPackC4 := rfl
theorem pldUnpackC6 : Statement .pldUnpackC6 := rfl
theorem pldPackC6 : Statement .pldPackC6 := rfl
theorem pldUnpackC7 : Statement .pldUnpackC7 := rfl
theorem pldPackC7 : Statement .pldPackC7 := rfl
theorem pldUnpackC8 : Statement .pldUnpackC8 := rfl
theorem pldPackC8 : Statement .pldPackC8 := rfl
theorem pldUnpackC11 : Statement .pldUnpackC11 := rfl
theorem pldPackC11 : Statement .pldPackC11 := rfl
theorem pldUnpackC12 : Statement .pldUnpackC12 := rfl
theorem pldPackC12 : Statement .pldPackC12 := rfl
theorem pldUnpackC13 : Statement .pldUnpackC13 := rfl
theorem pldPackC13 : Statement .pldPackC13 := rfl
theorem pldUnpackC14 : Statement .pldUnpackC14 := rfl
theorem pldPackC14 : Statement .pldPackC14 := rfl
theorem pldUnpackC15 : Statement .pldUnpackC15 := rfl
theorem pldPackC15 : Statement .pldPackC15 := rfl
theorem pldUnpackC16 : Statement .pldUnpackC16 := rfl
theorem pldPackC16 : Statement .pldPackC16 := rfl
theorem rbPush : Statement .rbPush := rfl
theorem rbPop : Statement .rbPop := rfl

end Sys2Proof.Laws.DecodeEncode
end

