-- ==== Sys2Proof/Laws/Ring.lean ====
section
/-! SUPPORT. The ring-buffer controller: positions and counts (R27 to R29, R35), the slots of different counts, and what a
micro-step of `RB.PUSH` or `RB.POP` can do. -/

namespace Sys2Proof.Machine

/-! ## Positions and counts -/

/-- A position of the ring wraps once at `C` on its way to a slot (R27, R318). -/
theorem slotOf_mod {c : Nat} (hc : 1 ≤ c) (k : Nat) : slotOf c (k % (2 * c)) = k % c := by
  have h := Nat.mod_lt k (show 2 * c > 0 by omega)
  rw [← Nat.mod_mod_of_dvd k (Nat.dvd_mul_left c 2)]
  generalize k % (2 * c) = p at *
  unfold slotOf
  split
  · exact (Nat.mod_eq_of_lt ‹_›).symm
  · rw [Nat.mod_eq_sub_mod (by omega), Nat.mod_eq_of_lt (by omega)]

/-- The next position is the position of the next count (R29, R35). -/
theorem inc_mod {c : Nat} (hc : 1 ≤ c) (k : Nat) : inc c (k % (2 * c)) = (k + 1) % (2 * c) := by
  have h := Nat.mod_lt k (show 2 * c > 0 by omega)
  unfold inc
  rw [Nat.add_mod k 1, Nat.mod_eq_of_lt (show 1 < 2 * c by omega)]
  split
  · exact (Nat.mod_eq_of_lt ‹_›).symm
  · rw [show k % (2 * c) + 1 = 2 * c by omega, Nat.mod_self]

/-- The distance of two positions is the difference of their counts, when the counts differ by less than `2C` (R28, R35). -/
theorem distance_mod {c a b : Nat} (hab : a ≤ b) (hb : b < a + 2 * c) :
    distance c (a % (2 * c)) (b % (2 * c)) = b - a := by
  obtain ⟨d, rfl⟩ := Nat.exists_eq_add_of_le hab
  have hd : d < 2 * c := by omega
  have ha := Nat.mod_lt a (show 2 * c > 0 by omega)
  unfold distance
  rw [Nat.add_mod, Nat.mod_eq_of_lt hd]
  by_cases h : a % (2 * c) + d < 2 * c
  · rw [Nat.mod_eq_of_lt h, show a % (2 * c) + d + 2 * c - a % (2 * c) = d + 2 * c by omega, Nat.add_mod_right,
      Nat.mod_eq_of_lt hd]
    omega
  · rw [Nat.mod_eq_sub_mod (a := a % (2 * c) + d) (by omega), Nat.mod_eq_of_lt (a := a % (2 * c) + d - 2 * c) (by omega),
      show a % (2 * c) + d - 2 * c + 2 * c - a % (2 * c) = d by omega, Nat.mod_eq_of_lt hd]
    omega

/-- Two positions are equal just when their counts are, when the counts differ by less than `2C`. -/
theorem mod_inj {c a b : Nat} (hab : a ≤ b) (hb : b < a + 2 * c) : a % (2 * c) = b % (2 * c) ↔ a = b := by
  constructor
  · intro h
    have hd := distance_mod (c := c) hab hb
    rw [← h] at hd
    unfold distance at hd
    rw [show a % (2 * c) + 2 * c - a % (2 * c) = 2 * c by omega, Nat.mod_self] at hd
    omega
  · rintro rfl; rfl

/-- Counts less than `C` apart have different slots (R65). -/
theorem slot_ne {c a b : Nat} (hab : a < b) (hb : b < a + c) : a % c ≠ b % c := by
  intro h
  have hc : 0 < c := by omega
  have ha := Nat.mod_add_div a c
  have hb' := Nat.mod_add_div b c
  rw [← h] at hb'
  have : a / c < b / c ∨ b / c ≤ a / c := Nat.lt_or_ge _ _
  rcases this with h1 | h1
  · have : c * (a / c + 1) ≤ c * (b / c) := Nat.mul_le_mul_left c h1
    rw [Nat.mul_succ] at this; omega
  · have : c * (b / c) ≤ c * (a / c) := Nat.mul_le_mul_left c h1
    omega

/-- Words of different slots have different addresses (R300). -/
theorem slot_disjoint {l x y i j : Nat} (hi : i < l) (hj : j < l) (h : x * l + i = y * l + j) : x = y := by
  have hl : 0 < l := by omega
  have hx : (x * l + i) / l = x := by
    rw [Nat.mul_comm, Nat.mul_add_div hl, Nat.div_eq_of_lt hi, Nat.add_zero]
  have hy : (y * l + j) / l = y := by
    rw [Nat.mul_comm, Nat.mul_add_div hl, Nat.div_eq_of_lt hj, Nat.add_zero]
  rw [← hx, h, hy]

/-- A slot lies within slot memory (R300). -/
theorem slot_inside {c l x : Nat} (h : x < c) : x * l + l ≤ c * l := by
  rw [← Nat.succ_mul]; exact Nat.mul_le_mul_right l h

/-- The slot a position names is that of its count. -/
theorem State.slotBase_position {s : State} (hc : 1 ≤ s.params.capacity) (k : Nat) :
    s.slotBase (s.position k) = k % s.params.capacity * s.params.slotWords := by
  rw [State.slotBase, State.position, slotOf_mod hc]

/-- A slot named by a count is always inside slot memory, so no step on it faults. -/
theorem State.slotInside_position {s : State} (hc : 1 ≤ s.params.capacity) (k : Nat) :
    s.slotInside (s.slotBase (s.position k)) = true := by
  rw [State.slotBase_position hc, State.slotInside, decide_eq_true_eq]
  exact slot_inside (Nat.mod_lt k hc)

theorem Params.capacity_pos {p : Params} (h : p.wf = true) : 1 ≤ p.capacity := by
  simp only [Params.wf, Bool.and_eq_true, decide_eq_true_eq] at h; exact h.1.1

theorem Params.slotWords_pos {p : Params} (h : p.wf = true) : 1 ≤ p.slotWords := by
  simp only [Params.wf, Bool.and_eq_true, decide_eq_true_eq] at h; exact h.1.2

theorem Params.layout_wf {p : Params} (h : p.wf = true) : p.layout.wf = true := by
  simp only [Params.wf, Bool.and_eq_true, decide_eq_true_eq] at h; exact h.2

/-! ## Loads of the other agent's cursor -/

/-- A load never returns an older value than the one seen last, nor one not stored yet (R62). -/
theorem State.loadOther_bounds (s : State) {seen stored : Nat} (h : seen ≤ stored) :
    seen ≤ s.loadOther seen stored ∧ s.loadOther seen stored ≤ stored := by
  unfold State.loadOther
  split
  · have := Nat.mod_lt s.draw (show stored - seen + 1 > 0 by omega)
    omega
  · omega

/-! ## What the micro-steps can do -/

/-- Everything `RB.PUSH` can do when it answers a next state. -/
theorem push_cases {s t : State} (h : exec .rbPush s = .next t) :
    (s.port = .cons ∧ s.cons.phase = .idle ∧ t = s.respondIllegal) ∨
    (s.port = .prod ∧
      ((s.prod.phase = .idle ∧ s.request.lanes.d.length = s.params.slotWords ∧
          t = pushLatch s) ∨
       (s.prod.phase = .p1 ∧ t = pushLoadHead s) ∨
       (s.prod.phase = .p2 ∧ t = pushLoadTail s) ∨
       (s.prod.phase = .p3 ∧ t = pushTest s) ∨
       (s.prod.phase = .p4 ∧ s.slotInside (s.slotBase s.prod.t) = true ∧
          t = pushCopy s) ∨
       (s.prod.phase = .p5 ∧ t = pushPublish s))) := by
  simp only [exec, execRbPush] at h
  cases hp : s.port with
  | cons =>
    left
    rw [hp] at h
    by_cases hi : s.cons.phase = .idle
    · simp [State.portIdle, hp, hi] at h
      exact ⟨rfl, hi, h.symm⟩
    · simp [State.portIdle, hp, hi] at h
  | prod =>
    right
    refine ⟨rfl, ?_⟩
    rw [hp] at h
    cases hph : s.prod.phase <;> simp only [hph] at h
    · left
      unfold pushAccept at h
      split at h
      · exact ⟨rfl, by simpa [Request.wf] using ‹s.request.wf s.params = true›, (Host.Outcome.next.inj h).symm⟩
      · cases h
    · exact .inr (.inl ⟨rfl, (Host.Outcome.next.inj h).symm⟩)
    · exact .inr (.inr (.inl ⟨rfl, (Host.Outcome.next.inj h).symm⟩))
    · exact .inr (.inr (.inr (.inl ⟨rfl, (Host.Outcome.next.inj h).symm⟩)))
    · unfold pushCopyIn at h
      split at h
      · exact .inr (.inr (.inr (.inr (.inl ⟨rfl, ‹_›, (Host.Outcome.next.inj h).symm⟩))))
      · cases h
    · exact .inr (.inr (.inr (.inr (.inr ⟨rfl, (Host.Outcome.next.inj h).symm⟩))))

/-- Everything `RB.POP` can do when it answers a next state. -/
theorem pop_cases {s t : State} (h : exec .rbPop s = .next t) :
    (s.port = .prod ∧ s.prod.phase = .idle ∧ t = s.respondIllegal) ∨
    (s.port = .cons ∧
      ((s.cons.phase = .idle ∧ t = popAccept s) ∨
       (s.cons.phase = .c1 ∧ t = popLoadHead s) ∨
       (s.cons.phase = .c2 ∧ t = popLoadTail s) ∨
       (s.cons.phase = .c3 ∧ t = popTest s) ∨
       (s.cons.phase = .c4 ∧ s.slotInside (s.slotBase s.cons.h) = true ∧
          t = popCopy s) ∨
       (s.cons.phase = .c5 ∧ t = popRelease s))) := by
  simp only [exec, execRbPop] at h
  cases hp : s.port with
  | prod =>
    left
    rw [hp] at h
    by_cases hi : s.prod.phase = .idle
    · simp [State.portIdle, hp, hi] at h
      exact ⟨rfl, hi, h.symm⟩
    · simp [State.portIdle, hp, hi] at h
  | cons =>
    right
    refine ⟨rfl, ?_⟩
    rw [hp] at h
    cases hph : s.cons.phase <;> simp only [hph] at h
    · exact .inl ⟨rfl, (Host.Outcome.next.inj h).symm⟩
    · exact .inr (.inl ⟨rfl, (Host.Outcome.next.inj h).symm⟩)
    · exact .inr (.inr (.inl ⟨rfl, (Host.Outcome.next.inj h).symm⟩))
    · exact .inr (.inr (.inr (.inl ⟨rfl, (Host.Outcome.next.inj h).symm⟩)))
    · unfold popCopyOut at h
      split at h
      · exact .inr (.inr (.inr (.inr (.inl ⟨rfl, ‹_›, (Host.Outcome.next.inj h).symm⟩))))
      · cases h
    · exact .inr (.inr (.inr (.inr (.inr ⟨rfl, (Host.Outcome.next.inj h).symm⟩))))

end Sys2Proof.Machine
end

