-- ==== Sys2Proof/Laws/Step.lean ====
section
/-! SUPPORT. What one step can do: every claim about a step starts from this case analysis. -/

namespace Sys2Proof.Machine

/-- Every command is a codec command or one of the two of the ring. -/
theorem codec_or_ring (i : Instr) : isCodec i = true ∨ i = .rbPush ∨ i = .rbPop := by
  by_cases h1 : i = .rbPush
  · exact .inr (.inl h1)
  · by_cases h2 : i = .rbPop
    · exact .inr (.inr h2)
    · left; simp [isCodec, h1, h2]

/-- Everything the acting port's step can do. -/
theorem stepPort_cases {s t : State} (h : stepPort s = .next t) :
    (s.portIdle = true ∧ s.io.pending = [] ∧ t = s) ∨
    (∃ r rs, s.portIdle = true ∧ s.io.pending = r :: rs ∧
      ((∃ i, decode r.cmd = .ok i ∧ exec i (s.taken r rs) = .next t) ∨
       (∃ e, decode r.cmd = .error e ∧ t = (s.taken r rs).respondIllegal))) ∨
    (s.portIdle = false ∧ exec s.inFlight s = .next t) := by
  unfold stepPort at h
  split at h
  · have hidle : s.portIdle = true := ‹_›
    unfold State.fetch at h
    cases hp : s.io.pending with
    | nil =>
      simp only [hp] at h
      exact .inl ⟨hidle, rfl, (Host.Outcome.next.inj h).symm⟩
    | cons r rs =>
      refine .inr (.inl ⟨r, rs, hidle, rfl, ?_⟩)
      simp only [hp, State.request_taken] at h
      cases hd : decode r.cmd with
      | ok i => rw [hd] at h; exact .inl ⟨i, rfl, h⟩
      | error e => rw [hd] at h; exact .inr ⟨e, rfl, (Host.Outcome.next.inj h).symm⟩
  · exact .inr (.inr ⟨by simpa using ‹¬s.portIdle = true›, h⟩)

/-- The next turn is that of the schedule, where there is one. -/
theorem State.nextTurn_of_sched {s : State} {turn : Turn} {rest : List Turn} (h : s.sched = turn :: rest) :
    s.nextTurn = some turn := by
  simp [State.nextTurn, h]

/-- A turn taken after the schedule has ended is a move of a port with a transaction in flight (R356). -/
theorem State.restTurn_cases {s : State} {turn : Turn} (h : s.restTurn = some turn) :
    ∃ p draw, turn = .move p draw ∧ 0 < s.stepsLeft p := by
  unfold State.restTurn at h
  split at h <;> cases h
  · exact ⟨.prod, _, rfl, by cases hp : s.prod.phase <;> simp_all [State.stepsLeft]⟩
  · exact ⟨.cons, _, rfl, by cases hp : s.cons.phase <;> simp_all [State.stepsLeft]⟩
  · refine ⟨_, _, rfl, ?_⟩
    split
    · cases hp : s.prod.phase <;> simp_all [State.stepsLeft]
    · cases hp : s.cons.phase <;> simp_all [State.stepsLeft]

/-- There is no next turn just when the schedule has ended and both ports are idle (R376). -/
theorem State.nextTurn_none {s : State} :
    s.nextTurn = none ↔ s.sched = [] ∧ s.prod.phase = .idle ∧ s.cons.phase = .idle := by
  cases hs : s.sched with
  | cons turn rest => simp [State.nextTurn_of_sched hs]
  | nil =>
    simp only [State.nextTurn, hs, true_and, ← beq_iff_eq (a := s.prod.phase), ← beq_iff_eq (a := s.cons.phase)]
    unfold State.restTurn
    cases s.prod.phase == .idle <;> cases s.cons.phase == .idle <;> simp

/-- A reset is always a turn of the schedule. -/
theorem State.sched_of_nextTurn_reset {s : State} (h : s.nextTurn = some .reset) : ∃ rest, s.sched = .reset :: rest := by
  cases hs : s.sched with
  | cons turn rest => rw [State.nextTurn_of_sched hs] at h; cases h; exact ⟨rest, rfl⟩
  | nil =>
    rw [State.nextTurn, hs] at h
    obtain ⟨_, _, h, _⟩ := State.restTurn_cases h
    cases h

/-- Everything a step of the machine can do. -/
theorem step_cases {s t : State} (h : step s = .next t) :
    (s.nextTurn = none ∧ t = s) ∨
    (s.nextTurn = some .reset ∧ t = s.applyReset s.sched.tail) ∨
    (∃ p d, s.nextTurn = some (.move p d) ∧ stepPort (s.takeTurn p d) = .next t) := by
  unfold step at h
  split at h
  · exact .inl ⟨‹_›, (Host.Outcome.next.inj h).symm⟩
  · exact .inr (.inl ⟨‹_›, (Host.Outcome.next.inj h).symm⟩)
  · exact .inr (.inr ⟨_, _, ‹_›, h⟩)

end Sys2Proof.Machine
end

