-- ==== Sys2Proof/Tests/Slice0.lean ====
section
/-! SUPPORT. Tests: ill-formed input refused, every command word decoded, worked examples and vectors of
`spec/95_test_vectors.md`, and for every statement with hypotheses values that meet all of them. -/

open Sys2Proof Sys2Proof.Machine

namespace Sys2Proof.Tests

/-! ## WellFormed refuses what is ill formed -/

theorem test_wf_default_layout : HdrLayout.vdif.wf = true := by decide
theorem test_wf_field_past_word : (HdrLayout.wf { HdrLayout.vdif with frameNo := 9 }) = false := by decide
theorem test_wf_fields_overlap : (HdrLayout.wf { HdrLayout.vdif with legacy := 31 }) = false := by decide
theorem test_wf_disjoint_neighbours : HdrLayout.vdif.disjoint .threadId .bpsM1 = true := by decide
theorem test_wf_disjoint_refuses :
    (HdrLayout.disjoint { HdrLayout.vdif with threadId := 17 } .threadId .bpsM1) = false := by decide
theorem test_wf_layout_may_move :
    (HdrLayout.wf { HdrLayout.vdif with invalid := 0, legacy := 1, seconds := 2 }) = true := by decide
theorem test_wf_no_slot : ({ Params.default with capacity := 0 } : Params).wf = false := by decide
theorem test_wf_no_word : ({ Params.default with slotWords := 0 } : Params).wf = false := by decide
theorem test_wf_bad_layout :
    ({ Params.default with layout := { HdrLayout.vdif with version := 30 } } : Params).wf = false := by decide
theorem test_wf_short_payload :
    (Request.wf Params.default { cmd := 0x30000000, lanes := Lanes.zero 1 }) = false := by decide
theorem test_wf_long_payload :
    (Request.wf Params.default { cmd := 0x30000000, lanes := Lanes.zero 3 }) = false := by decide
theorem test_wf_payload : (Request.wf Params.default { cmd := 0x30000000, lanes := Lanes.zero 2 }) = true := by decide
theorem test_wf_record_past_width : ({ HdrRecord.zero with version := 8 } : HdrRecord).inWidth = false := by decide
theorem test_wf_record : ({ HdrRecord.zero with version := 7 } : HdrRecord).inWidth = true := by decide

/-! ## Decoding: words written out field by field (R82 to R84) -/

theorem test_word_hdr_dec : decode (1#4 ++ 0#4 ++ 0#20 ++ 0#4) = .ok .hdrDec := by decide
theorem test_word_hdr_enc : decode (1#4 ++ 1#4 ++ 0#20 ++ 0#4) = .ok .hdrEnc := by decide
theorem test_word_hdr_get : decode (1#4 ++ 2#4 ++ 0#20 ++ 11#4) = .ok .hdrGetStationId := by decide
theorem test_word_hdr_set : decode (1#4 ++ 3#4 ++ 0#20 ++ 3#4) = .ok .hdrSetRefEpoch := by decide
theorem test_word_unpack_real : decode (2#4 ++ 0#4 ++ 0#1 ++ 0#18 ++ 5#5) = .ok .pldUnpackR6 := by decide
theorem test_word_pack_real : decode (2#4 ++ 1#4 ++ 0#1 ++ 0#18 ++ 31#5) = .ok .pldPackR32 := by decide
theorem test_word_unpack_complex : decode (2#4 ++ 0#4 ++ 1#1 ++ 0#18 ++ 15#5) = .ok .pldUnpackC16 := by decide
theorem test_word_pack_complex : decode (2#4 ++ 1#4 ++ 1#1 ++ 0#18 ++ 2#5) = .ok .pldPackC3 := by decide
theorem test_word_push : decode (3#4 ++ 0#4 ++ 0#24) = .ok .rbPush := by decide
theorem test_word_pop : decode (3#4 ++ 1#4 ++ 0#24) = .ok .rbPop := by decide

/-! ## Decoding: the opcode map of R90, every row -/

def headerWords : List (Word × Instr) :=
    [(0x10000000, .hdrDec), (0x11000000, .hdrEnc), (0x12000000, .hdrGetInvalid), (0x12000001, .hdrGetLegacy),
     (0x12000002, .hdrGetSeconds), (0x12000003, .hdrGetRefEpoch), (0x12000004, .hdrGetFrameNo),
     (0x12000005, .hdrGetVersion), (0x12000006, .hdrGetLog2Chans), (0x12000007, .hdrGetFrameLen8),
     (0x12000008, .hdrGetComplex), (0x12000009, .hdrGetBpsM1), (0x1200000A, .hdrGetThreadId),
     (0x1200000B, .hdrGetStationId), (0x1200000C, .hdrGetEdv0), (0x1200000D, .hdrGetEdv1), (0x1200000E, .hdrGetEdv2),
     (0x1200000F, .hdrGetEdv3), (0x13000000, .hdrSetInvalid), (0x13000001, .hdrSetLegacy),
     (0x13000002, .hdrSetSeconds), (0x13000003, .hdrSetRefEpoch), (0x13000004, .hdrSetFrameNo),
     (0x13000005, .hdrSetVersion), (0x13000006, .hdrSetLog2Chans), (0x13000007, .hdrSetFrameLen8),
     (0x13000008, .hdrSetComplex), (0x13000009, .hdrSetBpsM1), (0x1300000A, .hdrSetThreadId),
     (0x1300000B, .hdrSetStationId), (0x1300000C, .hdrSetEdv0), (0x1300000D, .hdrSetEdv1), (0x1300000E, .hdrSetEdv2),
     (0x1300000F, .hdrSetEdv3)]

theorem test_decode_header_words : ∀ p ∈ headerWords, decode p.1 = .ok p.2 := by decide

def unpackRealWords : List (Word × Instr) :=
    [(0x20000000, .pldUnpackR1), (0x20000001, .pldUnpackR2), (0x20000002, .pldUnpackR3), (0x20000003, .pldUnpackR4),
     (0x20000005, .pldUnpackR6), (0x20000006, .pldUnpackR7), (0x20000007, .pldUnpackR8), (0x2000000A, .pldUnpackR11),
     (0x2000000B, .pldUnpackR12), (0x2000000C, .pldUnpackR13), (0x2000000D, .pldUnpackR14),
     (0x2000000E, .pldUnpackR15), (0x2000000F, .pldUnpackR16), (0x20000010, .pldUnpackR17),
     (0x20000011, .pldUnpackR18), (0x20000012, .pldUnpackR19), (0x20000013, .pldUnpackR20),
     (0x20000014, .pldUnpackR21), (0x20000015, .pldUnpackR22), (0x20000016, .pldUnpackR23),
     (0x20000017, .pldUnpackR24), (0x20000018, .pldUnpackR25), (0x20000019, .pldUnpackR26),
     (0x2000001A, .pldUnpackR27), (0x2000001B, .pldUnpackR28), (0x2000001C, .pldUnpackR29),
     (0x2000001D, .pldUnpackR30), (0x2000001E, .pldUnpackR31), (0x2000001F, .pldUnpackR32)]

theorem test_decode_unpack_real_words : ∀ p ∈ unpackRealWords, decode p.1 = .ok p.2 := by decide

def packRealWords : List (Word × Instr) :=
    [(0x21000000, .pldPackR1), (0x21000001, .pldPackR2), (0x21000002, .pldPackR3), (0x21000003, .pldPackR4),
     (0x21000005, .pldPackR6), (0x21000006, .pldPackR7), (0x21000007, .pldPackR8), (0x2100000A, .pldPackR11),
     (0x2100000B, .pldPackR12), (0x2100000C, .pldPackR13), (0x2100000D, .pldPackR14), (0x2100000E, .pldPackR15),
     (0x2100000F, .pldPackR16), (0x21000010, .pldPackR17), (0x21000011, .pldPackR18), (0x21000012, .pldPackR19),
     (0x21000013, .pldPackR20), (0x21000014, .pldPackR21), (0x21000015, .pldPackR22), (0x21000016, .pldPackR23),
     (0x21000017, .pldPackR24), (0x21000018, .pldPackR25), (0x21000019, .pldPackR26), (0x2100001A, .pldPackR27),
     (0x2100001B, .pldPackR28), (0x2100001C, .pldPackR29), (0x2100001D, .pldPackR30), (0x2100001E, .pldPackR31),
     (0x2100001F, .pldPackR32)]

theorem test_decode_pack_real_words : ∀ p ∈ packRealWords, decode p.1 = .ok p.2 := by decide

def unpackComplexWords : List (Word × Instr) :=
    [(0x20800000, .pldUnpackC1), (0x20800001, .pldUnpackC2), (0x20800002, .pldUnpackC3), (0x20800003, .pldUnpackC4),
     (0x20800005, .pldUnpackC6), (0x20800006, .pldUnpackC7), (0x20800007, .pldUnpackC8), (0x2080000A, .pldUnpackC11),
     (0x2080000B, .pldUnpackC12), (0x2080000C, .pldUnpackC13), (0x2080000D, .pldUnpackC14),
     (0x2080000E, .pldUnpackC15), (0x2080000F, .pldUnpackC16)]

theorem test_decode_unpack_complex_words : ∀ p ∈ unpackComplexWords, decode p.1 = .ok p.2 := by decide

def packComplexWords : List (Word × Instr) :=
    [(0x21800000, .pldPackC1), (0x21800001, .pldPackC2), (0x21800002, .pldPackC3), (0x21800003, .pldPackC4),
     (0x21800005, .pldPackC6), (0x21800006, .pldPackC7), (0x21800007, .pldPackC8), (0x2180000A, .pldPackC11),
     (0x2180000B, .pldPackC12), (0x2180000C, .pldPackC13), (0x2180000D, .pldPackC14), (0x2180000E, .pldPackC15),
     (0x2180000F, .pldPackC16)]

theorem test_decode_pack_complex_words : ∀ p ∈ packComplexWords, decode p.1 = .ok p.2 := by decide

def ringWords : List (Word × Instr) :=
    [(0x30000000, .rbPush), (0x31000000, .rbPop)]

theorem test_decode_ring_words : ∀ p ∈ ringWords, decode p.1 = .ok p.2 := by decide

theorem test_opcode_map_complete : (headerWords ++ unpackRealWords ++ packRealWords ++ unpackComplexWords ++
    packComplexWords ++ ringWords).length = 120 := by decide

/-- Words of `95_test_vectors.md` 2.6. -/
theorem test_illegal_words : ∀ w ∈ ([0x00000000, 0xFFFFFFFF, 0x40000000, 0x14000000, 0x10000001, 0x11000005, 0x12000010,
    0x13800000, 0x22000000, 0x20000004, 0x21000008, 0x20800009, 0x20800010, 0x2180001F, 0x20000020, 0x20400000, 0x32000000,
    0x30000001, 0x31800000] : List Nat), decodeTableWord 32 w = none := by decide

theorem test_table_word : decodeTableWord 32 0x2080000F = some .pldUnpackC16 := by decide

/-! ## Codec commands: examples of `95_test_vectors.md` -/

/-- The block after reset with the producer port acting. -/
abbrev block : State := State.reset

/-- The lanes of an answer with status `OK`. -/
def okLanes (r : Option Response) : Option Lanes :=
  match r with
  | some r => if r.status = .ok then some r.lanes else none
  | none => none

/-- The image of the worked example of R114. -/
def exampleImage : Image :=
  #v[0x01234567, 0x2A00ABCD, 0x230003EC, 0x04054D48, 0xDEADBEEF, 0x00000000, 0x00000001, 0xFFFFFFFF]

/-- The record of the worked example of R114. -/
def exampleRecord : HdrRecord :=
  ⟨1, 0, 0x1234567, 0x2A, 0xABCD, 1, 3, 0x3EC, 0, 1, 5, 0x4D48, 0xDEADBEEF, 0, 1, 0xFFFFFFFF⟩

/-- 2.1, the worked example of R114, on both ports. -/
theorem test_hdr_dec_example : (okLanes (ask block .hdrDec { Lanes.zero 2 with w := exampleImage })).map (·.h) =
    some exampleRecord ∧
    (okLanes (ask { block with port := .cons } .hdrDec { Lanes.zero 2 with w := exampleImage })).map (·.h) =
    some exampleRecord := by decide

/-- 2.1, the highest bit of every field of several bits. -/
theorem test_hdr_dec_high_bits : (okLanes (ask block .hdrDec { Lanes.zero 2 with w := #v[0x20000000, 0x20800000, 0x90800000,
    0x42008000, 0x80000000, 0x80000000, 0x80000000, 0x80000000] })).map (·.h) =
    some ⟨1, 0, 0x20000000, 0x20, 0x800000, 4, 0x10, 0x800000, 0, 0x10, 0x200, 0x8000, 0x80000000, 0x80000000, 0x80000000,
      0x80000000⟩ := by decide

/-- 2.2, the record of the worked example of R114. -/
theorem test_hdr_enc_example : (okLanes (ask block .hdrEnc { Lanes.zero 2 with h := exampleRecord })).map (·.w) =
    some exampleImage := by decide

/-- 2.2, every lane all ones. -/
theorem test_hdr_enc_masks : (okLanes (ask block .hdrEnc { Lanes.zero 2 with h := ⟨0xFFFFFFFF, 0xFFFFFFFF, 0xFFFFFFFF,
    0xFFFFFFFF, 0xFFFFFFFF, 0xFFFFFFFF, 0xFFFFFFFF, 0xFFFFFFFF, 0xFFFFFFFF, 0xFFFFFFFF, 0xFFFFFFFF, 0xFFFFFFFF,
    0xFFFFFFFF, 0xFFFFFFFF, 0xFFFFFFFF, 0xFFFFFFFF⟩ })).map (·.w) =
    some #v[0x7FFFFFFF, 0x3FFFFFFF, 0xFFFFFFFF, 0xFFFFFFFF, 0xFFFFFFFF, 0xFFFFFFFF, 0xFFFFFFFF, 0xFFFFFFFF] := by decide

/-- 2.1, every `HDR.GET` on the worked example, in `FSEL` order. -/
theorem test_hdr_get_example : HdrField.all.map (fun f =>
    (okLanes (ask block (hdrGetInstr f) { Lanes.zero 2 with w := exampleImage })).map (·.v)) =
    [0, 0, 0x1234567, 0x2A, 0xABCD, 1, 3, 0x3EC, 0, 1, 5, 0x4D48, 0xDEADBEEF, 0, 1, 0xFFFFFFFF].map some := by decide

/-- 2.2, the sixteen `HDR.SET` on the zero image, in `FSEL` order. -/
theorem test_hdr_set_example : setsFrom block exampleRecord HdrField.all (Vector.replicate 8 0) = some exampleImage := by
  decide

/-- 2.2, the OR hazard (R382), an operand past its width, and the unassigned bits passed through (R388). -/
theorem test_hdr_set_hazards :
    (okLanes (ask block .hdrSetSeconds { Lanes.zero 2 with w := exampleImage, v := 0x0FFFFFFF })).map (·.w[0]) =
      some 0x0FFFFFFF ∧
    (okLanes (ask block .hdrSetRefEpoch { Lanes.zero 2 with v := 0xFFFFFFC1 })).map (·.w[1]) = some 0x01000000 ∧
    (okLanes (ask block .hdrSetFrameNo { Lanes.zero 2 with w := #v[0, 0xC0000000, 0, 0, 0, 0, 0, 0], v := 5 })).map
      (·.w[1]) = some 0xC0000005 := by decide

/-- 2.4, real depths: depth, count, the samples of `0x89ABCDEF`, and what packing those gives. -/
def realRows : List (Nat × Nat × List Word × Word) :=
    [(1, 32, [1, 1, 1, 1, 0, 1, 1, 1, 1, 0, 1, 1, 0, 0, 1, 1,
      1, 1, 0, 1, 0, 1, 0, 1, 1, 0, 0, 1, 0, 0, 0, 1], 0x89ABCDEF),
     (2, 16, [3, 3, 2, 3, 1, 3, 0, 3, 3, 2, 2, 2, 1, 2, 0, 2], 0x89ABCDEF),
     (3, 10, [7, 5, 7, 6, 4, 7, 2, 5, 1, 1], 0x09ABCDEF),
     (4, 8, [0xF, 0xE, 0xD, 0xC, 0xB, 0xA, 9, 8], 0x89ABCDEF),
     (6, 5, [0x2F, 0x37, 0x3C, 0x2A, 9], 0x09ABCDEF),
     (7, 4, [0x6F, 0x1B, 0x2F, 0x4D], 0x09ABCDEF),
     (8, 4, [0xEF, 0xCD, 0xAB, 0x89], 0x89ABCDEF),
     (11, 2, [0x5EF, 0x579], 0x002BCDEF),
     (12, 2, [0xDEF, 0xABC], 0x00ABCDEF),
     (13, 2, [0xDEF, 0xD5E], 0x01ABCDEF),
     (14, 2, [0xDEF, 0x26AF], 0x09ABCDEF),
     (15, 2, [0x4DEF, 0x1357], 0x09ABCDEF),
     (16, 2, [0xCDEF, 0x89AB], 0x89ABCDEF),
     (17, 1, [0x1CDEF], 0x0001CDEF),
     (18, 1, [0x3CDEF], 0x0003CDEF),
     (19, 1, [0x3CDEF], 0x0003CDEF),
     (20, 1, [0xBCDEF], 0x000BCDEF),
     (21, 1, [0xBCDEF], 0x000BCDEF),
     (22, 1, [0x2BCDEF], 0x002BCDEF),
     (23, 1, [0x2BCDEF], 0x002BCDEF),
     (24, 1, [0xABCDEF], 0x00ABCDEF),
     (25, 1, [0x1ABCDEF], 0x01ABCDEF),
     (26, 1, [0x1ABCDEF], 0x01ABCDEF),
     (27, 1, [0x1ABCDEF], 0x01ABCDEF),
     (28, 1, [0x9ABCDEF], 0x09ABCDEF),
     (29, 1, [0x9ABCDEF], 0x09ABCDEF),
     (30, 1, [0x9ABCDEF], 0x09ABCDEF),
     (31, 1, [0x9ABCDEF], 0x09ABCDEF),
     (32, 1, [0x89ABCDEF], 0x89ABCDEF)]

/-- 2.5, complex depths: depth, count, the pairs of `0x89ABCDEF`, and what packing those gives. -/
def complexRows : List (Nat × Nat × List Word × List Word × Word) :=
    [(1, 16, [1, 1, 0, 1, 1, 1, 0, 1, 1, 0, 0, 0, 1, 0, 0, 0],
      [1, 1, 1, 1, 0, 1, 0, 1, 1, 1, 1, 1, 0, 1, 0, 1], 0x89ABCDEF),
     (2, 8, [3, 2, 1, 0, 3, 2, 1, 0], [3, 3, 3, 3, 2, 2, 2, 2], 0x89ABCDEF),
     (3, 5, [7, 7, 4, 2, 1], [5, 6, 7, 5, 1], 0x09ABCDEF),
     (4, 4, [0xF, 0xD, 0xB, 9], [0xE, 0xC, 0xA, 8], 0x89ABCDEF),
     (6, 2, [0x2F, 0x3C], [0x37, 0x2A], 0x00ABCDEF),
     (7, 2, [0x6F, 0x2F], [0x1B, 0x4D], 0x09ABCDEF),
     (8, 2, [0xEF, 0xAB], [0xCD, 0x89], 0x89ABCDEF),
     (11, 1, [0x5EF], [0x579], 0x002BCDEF),
     (12, 1, [0xDEF], [0xABC], 0x00ABCDEF),
     (13, 1, [0xDEF], [0xD5E], 0x01ABCDEF),
     (14, 1, [0xDEF], [0x26AF], 0x09ABCDEF),
     (15, 1, [0x4DEF], [0x1357], 0x09ABCDEF),
     (16, 1, [0xCDEF], [0x89AB], 0x89ABCDEF)]

/-- The answer of the real unpack command of a depth: the count, the first lanes, and whether the lanes past them are zero. -/
def unpackRealAnswer (b n : Nat) (pw : Word) : Option (Nat × List Word × Bool) := do
  let i ← unpackRealInstr b
  let l ← okLanes (ask block i { Lanes.zero 2 with pw := pw })
  return (l.n, l.s.toList.take n, (l.s.toList.drop n).all (· == 0))

/-- The answer of the real pack command of a depth: the payload word and the count; lanes past those given are all ones. -/
def packRealAnswer (b : Nat) (smp : List Word) : Option (Word × Nat) := do
  let i ← packRealInstr b
  let l ← okLanes (ask block i { Lanes.zero 2 with s := Vector.ofFn fun k => smp[k.val]?.getD 0xFFFFFFFF })
  return (l.pw, l.n)

/-- The answer of the complex unpack command of a depth, as `unpackRealAnswer`. -/
def unpackComplexAnswer (b n : Nat) (pw : Word) : Option (Nat × List Word × List Word × Bool) := do
  let i ← unpackComplexInstr b
  let l ← okLanes (ask block i { Lanes.zero 2 with pw := pw })
  return (l.n, l.i.toList.take n, l.q.toList.take n, (l.i.toList.drop n ++ l.q.toList.drop n).all (· == 0))

/-- The answer of the complex pack command of a depth, as `packRealAnswer`. -/
def packComplexAnswer (b : Nat) (re im : List Word) : Option (Word × Nat) := do
  let i ← packComplexInstr b
  let l ← okLanes (ask block i { Lanes.zero 2 with
    i := Vector.ofFn fun k => re[k.val]?.getD 0xFFFFFFFF, q := Vector.ofFn fun k => im[k.val]?.getD 0xFFFFFFFF })
  return (l.pw, l.n)

theorem test_unpack_real_rows : ∀ r ∈ realRows, unpackRealAnswer r.1 r.2.1 0x89ABCDEF = some (r.2.1, r.2.2.1, true) := by
  decide

theorem test_pack_real_rows : ∀ r ∈ realRows, packRealAnswer r.1 r.2.2.1 = some (r.2.2.2, r.2.1) := by decide

theorem test_unpack_complex_rows : ∀ r ∈ complexRows,
    unpackComplexAnswer r.1 r.2.1 0x89ABCDEF = some (r.2.1, r.2.2.1, r.2.2.2.1, true) := by decide

theorem test_pack_complex_rows : ∀ r ∈ complexRows,
    packComplexAnswer r.1 r.2.2.1 r.2.2.2.1 = some (r.2.2.2.2, r.2.1) := by decide

/-- 2.4, masking on pack. -/
theorem test_pack_real_masks :
    packRealAnswer 3 [8, 9, 0xA, 0xB, 0xC, 0xD, 0xE, 0xF, 0x10, 0x11] = some (0x08FAC688, 10) ∧
    packRealAnswer 6 [0x40, 0x41, 0x7F, 0x80, 0xFF] = some (0x3F03F040, 5) ∧
    packRealAnswer 16 [0x12345, 0xFFFF0000] = some (0x00002345, 2) ∧
    packRealAnswer 24 [0xAB123456] = some (0x00123456, 1) := by decide

/-- 2.5, I before Q. -/
theorem test_pack_complex_order :
    packComplexAnswer 8 [0x11, 0x33] [0x22, 0x44] = some (0x44332211, 2) ∧
    packComplexAnswer 16 [0xAAAA] [0x5555] = some (0x5555AAAA, 1) ∧
    packComplexAnswer 4 [0x1F, 0, 0, 0] [0xF0, 0, 0, 0] = some (0x0000000F, 4) := by decide

/-! ## Positions (2.7) -/

theorem test_slot_and_inc : ([(1, 0), (1, 1), (2, 0), (2, 1), (2, 2), (2, 3), (3, 0), (3, 1), (3, 2), (3, 3), (3, 4), (3, 5)] :
    List (Nat × Nat)).map (fun p => (slotOf p.1 p.2, inc p.1 p.2)) =
    [(0, 1), (0, 0), (0, 1), (1, 2), (0, 3), (1, 0), (0, 1), (1, 2), (2, 3), (0, 4), (1, 5), (2, 0)] := by decide

theorem test_distance : ([(2, 0, 0), (2, 0, 1), (2, 0, 2), (2, 3, 1), (2, 3, 3), (2, 2, 0), (3, 5, 2), (3, 4, 0), (3, 5, 0),
    (1, 1, 0), (1, 1, 1), (1, 0, 1)] : List (Nat × Nat × Nat)).map (fun p => distance p.1 p.2.1 p.2.2) =
    [0, 1, 2, 2, 0, 2, 3, 2, 1, 1, 0, 1] := by decide

theorem test_status_codes : [Status.ok, .full, .empty, .illegal].map Status.code = [0, 1, 2, 3] := by decide

/-- 2.3. -/
theorem test_frame_sizes :
    payloadWords { HdrRecord.zero with frameLen8 := 1004 } = some 2000 ∧
    payloadWords { HdrRecord.zero with frameLen8 := 4 } = some 0 ∧
    payloadWords { HdrRecord.zero with frameLen8 := 3 } = none ∧
    frameBytes { HdrRecord.zero with frameLen8 := 16777215 } = 134217720 := by decide

theorem test_wire_bytes : wordBytes 0x0A0B0C0D = [0x0D, 0x0C, 0x0B, 0x0A] := by decide

/-! ## The ring, one step at a time (`C = 2`, `L = 2`; program 3.2) -/

/-- A block in the middle of its work: who acts, views, counts, slot memory and the two agents. -/
abbrev ringAt (p : Port) (vh npop vt npush : Nat) (mem : Memory) (prod : ProdAgent) (cons : ConsAgent) : State :=
  { State.reset with
    port := p, head := npop % 4, tail := npush % 4, vh := vh, npop := npop, vt := vt, npush := npush, mem := mem,
    prod := prod, cons := cons }

/-- The producer in a phase, with its cursor latches and the words `0xB0`, `0xB1`. -/
abbrev prodAt (phase : ProdPhase) (h t : Nat) : ProdAgent := { phase := phase, h := h, t := t, d := [0xB0, 0xB1] }

/-- The consumer in a phase, with its latches. -/
abbrev consAt (phase : ConsPhase) (h t : Nat) (d : List Word) : ConsAgent := { phase := phase, h := h, t := t, d := d }

/-- Slot 0 written. -/
abbrev slotOne : Memory := [(0, 0xA0), (1, 0xA1)]

/-- Both slots written. -/
abbrev slotTwo : Memory := [(0, 0xA0), (1, 0xA1), (2, 0xB0), (3, 0xB1)]

/-- A request of the given command with two words in `D`. -/
abbrev requestOf (cmd : Word) : Request := { cmd := cmd, lanes := { Lanes.zero 2 with d := [0xC0, 0xC1] } }

/-- The state after a step, or the state itself where the step stops. -/
def after (s : State) : State :=
  match step s with
  | .next t => t
  | .fault _ => s
  | .refused _ => s

/-- P4 writes the words of slot 1. -/
theorem test_push_copies : (after { ringAt .prod 0 0 0 1 slotOne (prodAt .p4 0 1) (consAt .idle 0 0 []) with
    sched := [.move .prod 0] }).mem = slotTwo := by decide

/-- P5 moves the tail past the last position to 0. -/
theorem test_push_publishes : (after { ringAt .prod 2 2 2 3 slotTwo (prodAt .p5 2 3) (consAt .idle 0 0 []) with
    sched := [.move .prod 0] }).tail = 0 := by decide

/-- P3 on a full ring hands the words back. -/
theorem test_push_full : (after { ringAt .prod 0 0 0 2 slotTwo (prodAt .p3 0 2) (consAt .idle 0 0 []) with
    sched := [.move .prod 0] }).prodIO.rsp =
    some { status := .full, lanes := { Lanes.zero 2 with d := [0xB0, 0xB1] } } := by decide

/-- C5 answers the words copied out and moves the head. -/
theorem test_pop_releases : (after { ringAt .cons 0 0 2 2 slotTwo (prodAt .idle 0 0) (consAt .c5 0 2 [0xA0, 0xA1]) with
    sched := [.move .cons 0] }).consIO.rsp =
    some { status := .ok, lanes := { Lanes.zero 2 with d := [0xA0, 0xA1] } } := by decide

/-- The consumer port refuses a push, the producer port a pop, with `ILLEGAL`. -/
theorem test_port_rights :
    (after { block with consIO := { block.consIO with pending := [requestOf 0x30000000] }, sched := [.move .cons 0] }).consIO.rsp =
      some { status := .illegal, lanes := Lanes.zero 2 } ∧
    (after { block with prodIO := { block.prodIO with pending := [requestOf 0x31000000] }, sched := [.move .prod 0] }).prodIO.rsp =
      some { status := .illegal, lanes := Lanes.zero 2 } := by decide

/-- A command placed by `withFetchWord` after reset runs in the next step, on the port that accepts it. -/
theorem test_fetch_word :
    ((after (State.reset.withFetchWord 32 0x20000000)).prodIO.rsp.map (·.status)) = some .ok ∧
    (after (State.reset.withFetchWord 32 0x30000000)).prod.phase = .p1 ∧
    (after (State.reset.withFetchWord 32 0x31000000)).cons.phase = .c1 := by decide

/-! ## Values that meet the hypotheses of the statements, each clause at a boundary -/

/-- The producer's master presents one request of a command; it is the producer's turn. -/
abbrev prodAsks (cmd : Word) : State :=
  { block with prodIO := { block.prodIO with pending := [requestOf cmd] }, sched := [.move .prod 0] }

/-- The consumer's master presents one request of a command; it is the consumer's turn. -/
abbrev consAsks (cmd : Word) : State :=
  { block with consIO := { block.consIO with pending := [requestOf cmd] }, sched := [.move .cons 0] }

/-- The producer about to store into slot 1 while the consumer is about to read slot 0. -/
abbrev bothBusy : State := ringAt .prod 0 0 1 1 slotOne (prodAt .p4 0 1) (consAt .c4 0 1 [])

/-- The producer about to publish slot 1. -/
abbrev publishing : State := ringAt .prod 0 0 1 1 slotTwo (prodAt .p5 0 1) (consAt .idle 0 0 [])

/-- The consumer about to release slot 0, both slots full. -/
abbrev releasing : State := ringAt .cons 0 0 2 2 slotTwo (prodAt .idle 0 0) (consAt .c5 0 2 [0xA0, 0xA1])

/-- The producer about to test a full ring. -/
abbrev testingFull : State := ringAt .prod 0 0 0 2 slotTwo (prodAt .p3 0 2) (consAt .idle 0 0 [])

/-- The consumer about to test with a view that has seen nothing, one element queued. -/
abbrev testingEmpty : State := ringAt .cons 0 0 0 1 slotOne (prodAt .idle 0 0) (consAt .c3 0 0 [])

theorem test_witness_IllegalCommandAnswersIllegal_word :
    (prodAsks 0x20000004).nextTurn = some (.move .prod 0) ∧
    ((prodAsks 0x20000004).takeTurn .prod 0).portIdle = true ∧
    ((prodAsks 0x20000004).takeTurn .prod 0).io.pending = requestOf 0x20000004 :: [] ∧
    ∀ i, decode (requestOf 0x20000004).cmd = .ok i → portAccepts .prod i = false :=
  ⟨rfl, by decide, rfl, fun i h => by cases i <;> revert h <;> decide⟩

theorem test_witness_IllegalCommandAnswersIllegal_port :
    (consAsks 0x30000000).nextTurn = some (.move .cons 0) ∧
    ((consAsks 0x30000000).takeTurn .cons 0).portIdle = true ∧
    ((consAsks 0x30000000).takeTurn .cons 0).io.pending = requestOf 0x30000000 :: [] ∧
    ∀ i, decode (requestOf 0x30000000).cmd = .ok i → portAccepts .cons i = false :=
  ⟨rfl, by decide, rfl, fun i h => by cases i <;> revert h <;> decide⟩

theorem test_witness_StepRunsTheDecodedCommand :
    (consAsks 0x31000000).nextTurn = some (.move .cons 0) ∧
    ((consAsks 0x31000000).takeTurn .cons 0).portIdle = true ∧
    ((consAsks 0x31000000).takeTurn .cons 0).io.pending = requestOf 0x31000000 :: [] ∧
    decode (requestOf 0x31000000).cmd = .ok .rbPop :=
  ⟨rfl, by decide, rfl, by decide⟩

theorem test_witness_StepGoesOnOrWaits :
    ({ publishing with sched := [.move .prod 3] } : State).nextTurn = some (.move .prod 3) ∧ publishing.prod.phase ≠ .idle ∧
    ({ releasing with sched := [.move .cons 3] } : State).nextTurn = some (.move .cons 3) ∧ releasing.cons.phase ≠ .idle ∧
    ({ block with sched := [.move .cons 0] } : State).nextTurn = some (.move .cons 0) ∧
    (({ block with sched := [.move .cons 0] } : State).takeTurn .cons 0).portIdle = true ∧
    (({ block with sched := [.move .cons 0] } : State).takeTurn .cons 0).io.pending = [] ∧
    bothBusy.sched = [] ∧ 0 < bothBusy.stepsLeft .prod ∧ 0 < bothBusy.stepsLeft .cons ∧
    State.reset.sched = [] ∧ State.reset.prod.phase = .idle ∧ State.reset.cons.phase = .idle := by decide

/-- A transaction in flight goes on when the schedule has ended (R356). -/
theorem test_rest_turn : (after publishing).prod.phase = .idle ∧ (after publishing).npush = 2 ∧
    (after releasing).npop = 1 := ⟨rfl, rfl, rfl⟩

theorem test_witness_ResetAbortsAtAnyMoment :
    ({ bothBusy with sched := [.reset] } : State).sched = .reset :: [] ∧ bothBusy.prod.phase = .p4 := by decide

/-- The hypotheses of the statements about header commands: an idle port, the default layout, a legal layout that is not the
default one. -/
theorem test_witness_header_commands :
    State.reset.portIdle = true ∧ State.reset.params.layout = HdrLayout.vdif ∧ State.reset.params.layout.wf = true ∧
    (HdrLayout.wf { HdrLayout.vdif with invalid := 0, legacy := 1, seconds := 2 }) = true ∧
    HdrField.invalid ≠ .edv3 ∧ exampleRecord.inWidth = true := by decide

/-- GetAfterSetIsTheOr: a field that was zero, a field that was not, and two different fields. -/
theorem test_witness_GetAfterSetIsTheOr :
    (okLanes (ask block (hdrGetInstr .legacy) { Lanes.zero 2 with w := exampleImage })).map (·.v) = some 0 ∧
    (okLanes (ask block (hdrGetInstr .seconds) { Lanes.zero 2 with w := exampleImage })).map (·.v) = some 0x1234567 ∧
    HdrField.legacy ≠ .seconds := by decide

theorem test_witness_SetsInAnyOrderMakeTheEncoding :
    State.reset.portIdle = true ∧ HdrField.all.reverse.Perm HdrField.all :=
  ⟨by decide, List.reverse_perm _⟩

/-- The hypotheses of the payload statements: the least and the greatest depth of each kind. -/
theorem test_witness_payload_commands :
    State.reset.portIdle = true ∧ unpackRealInstr 1 = some .pldUnpackR1 ∧ unpackRealInstr 32 = some .pldUnpackR32 ∧
    packRealInstr 1 = some .pldPackR1 ∧ packRealInstr 32 = some .pldPackR32 ∧
    unpackComplexInstr 1 = some .pldUnpackC1 ∧ unpackComplexInstr 16 = some .pldUnpackC16 ∧
    packComplexInstr 1 = some .pldPackC1 ∧ packComplexInstr 16 = some .pldPackC16 ∧ packRealInstr 6 = some .pldPackR6 := by
  decide

/-- Two pairs and the real lanes that interleave them, with a fifth lane of 0 (depth 6, five slots). -/
def interleaved : Vector Word 32 := Vector.ofFn fun k => if k.val = 4 then 0 else BitVec.ofNat 32 (k.val + 1)

theorem test_witness_ComplexRoundTrips :
    unpackComplexInstr 6 = some .pldUnpackC6 ∧ packComplexInstr 6 = some .pldPackC6 ∧ packRealInstr 6 = some .pldPackR6 ∧
    State.reset.portIdle = true ∧
    (∀ (k : Nat) (_ : k < 16), k < 32 / 6 / 2 →
      interleaved[2 * k] = ((#v[1, 3, 0, 0, 0, 0, 0, 0, 0, 0, 0, 0, 0, 0, 0, 0] : Vector Word 16))[k] ∧
      interleaved[2 * k + 1] = ((#v[2, 4, 0, 0, 0, 0, 0, 0, 0, 0, 0, 0, 0, 0, 0, 0] : Vector Word 16))[k]) ∧
    32 / 6 % 2 = 1 ∧ interleaved[32 / 6 - 1]?.getD 0 = 0 := by decide

theorem test_witness_FifthSlotIsForTheRealPath :
    State.reset.portIdle = true ∧ ∀ j < 24, (0xFFABCDEF#32).getLsbD j = (0x00ABCDEF#32).getLsbD j := by decide

theorem test_witness_CodecDependsOnTheRequestAlone :
    isCodec .hdrDec = true ∧ State.reset.portIdle = true ∧ ({ block with port := .cons, npush := 1 } : State).portIdle = true ∧
    ({ block with port := .cons, npush := 1 } : State).params = State.reset.params ∧
    ({ block with port := .cons, npush := 1 } : State).request.lanes = State.reset.request.lanes := by decide

theorem test_witness_CodecTouchesOnlyTheResponse :
    isCodec .pldPackC16 = true ∧ State.reset.portIdle = true ∧
    exec .pldPackC16 State.reset = .next (State.reset.respond .ok { Lanes.zero 2 with n := 1 }) :=
  ⟨by decide, by decide, by rfl⟩

theorem test_witness_StopsOfTheModel :
    isCodec .hdrEnc = true ∧ bothBusy.portIdle = false ∧
    ({ bothBusy with port := .cons } : State).portIdle = false ∧
    (ringAt .prod 0 0 0 0 [] (prodAt .p4 0 4) (consAt .c4 4 0 [])).params.wf = true ∧
    2 * 2 ≤ (ringAt .prod 0 0 0 0 [] (prodAt .p4 0 4) (consAt .c4 4 0 [])).prod.t ∧
    2 * 2 ≤ (ringAt .prod 0 0 0 0 [] (prodAt .p4 0 4) (consAt .c4 4 0 [])).cons.h ∧
    ({ block with prodIO := { block.prodIO with req := { cmd := 0x30000000, lanes := Lanes.zero 3 } } } :
      State).request.lanes.d.length ≠ 2 := by decide

theorem test_witness_PortRights :
    ({ block with port := .cons } : State).portIdle = true ∧ State.reset.portIdle = true ∧ State.reset.port = .prod ∧
    State.reset.request.lanes.d.length = 2 ∧ isCodec .pldUnpackC6 = true := by decide

theorem test_witness_PushAcceptLatchesTheWords :
    State.reset.port = .prod ∧ State.reset.prod.phase = .idle ∧ State.reset.request.lanes.d.length = 2 := by decide

/-- PushLoadsHead: a pop unseen, and none. -/
theorem test_witness_PushLoadsHead :
    let s := ringAt .prod 0 1 1 1 slotOne (prodAt .p1 0 0) (consAt .idle 0 0 [])
    s.params.staleViews = true ∧ s.port = .prod ∧ s.prod.phase = .p1 ∧ s.vh < s.npop ∧
    (ringAt .prod 1 1 1 1 slotOne (prodAt .p1 0 0) (consAt .idle 0 0 [])).vh = 1 := by decide

theorem test_witness_OwnCursorLoadsAreCurrent :
    (ringAt .prod 0 0 0 1 slotOne (prodAt .p2 0 0) (consAt .c1 0 0 [])).prod.phase = .p2 ∧
    (ringAt .cons 0 0 0 1 slotOne (prodAt .p2 0 0) (consAt .c1 0 0 [])).cons.phase = .c1 := by decide

/-- PushFullTest: positions `C` apart, and not. -/
theorem test_witness_PushFullTest :
    testingFull.prod.d.length = 2 ∧ (testingFull.prod.t + 2 * 2 - testingFull.prod.h) % (2 * 2) = 2 ∧
    (1 + 2 * 2 - 0) % (2 * 2) ≠ 2 := by decide

/-- PushCopiesIntoTheSlot at the last position. -/
theorem test_witness_PushCopiesIntoTheSlot :
    let s := ringAt .prod 2 2 2 3 slotTwo (prodAt .p4 2 3) (consAt .idle 0 0 [])
    s.params.wf = true ∧ s.port = .prod ∧ s.prod.phase = .p4 ∧ s.prod.t + 1 = 2 * s.params.capacity ∧
    s.prod.d.length = s.params.slotWords := by decide

theorem test_witness_PushPublishesTheSlot :
    publishing.port = .prod ∧ publishing.prod.phase = .p5 ∧ publishing.prod.t < 2 * publishing.params.capacity := by decide

theorem test_witness_PopAcceptReadsNoLane :
    ({ block with port := .cons } : State).port = .cons ∧ ({ block with port := .cons } : State).cons.phase = .idle := by decide

theorem test_witness_PopLoadsTail :
    let s := ringAt .cons 0 0 0 2 slotTwo (prodAt .idle 0 0) (consAt .c2 0 0 [])
    s.params.staleViews = true ∧ s.port = .cons ∧ s.cons.phase = .c2 ∧ s.vt < s.npush := by decide

/-- PopEmptyTest: equal positions, and positions of one slot that are not equal. -/
theorem test_witness_PopEmptyTest :
    testingEmpty.cons.h = testingEmpty.cons.t ∧
    (ringAt .cons 0 0 2 2 slotTwo (prodAt .idle 0 0) (consAt .c3 0 2 [])).cons.h ≠
      (ringAt .cons 0 0 2 2 slotTwo (prodAt .idle 0 0) (consAt .c3 0 2 [])).cons.t := by decide

theorem test_witness_PopCopiesOutOfTheSlot :
    let s := ringAt .cons 2 3 4 4 slotTwo (prodAt .idle 0 0) (consAt .c4 3 0 [])
    s.params.wf = true ∧ s.port = .cons ∧ s.cons.phase = .c4 ∧ s.cons.h + 1 = 2 * s.params.capacity := by decide

theorem test_witness_PopReleasesTheSlot :
    releasing.port = .cons ∧ releasing.cons.phase = .c5 ∧ releasing.cons.h < 2 * releasing.params.capacity ∧
    releasing.cons.d.length = releasing.params.slotWords := by decide

/-- PositionArithmetic for a capacity that is no power of two. -/
theorem test_witness_PositionArithmetic : 5 < 2 * 3 ∧ 2 < 2 * 3 ∧ distance 3 5 2 = 3 ∧ distance 3 2 5 = 3 := by decide

/-! ### States with the invariant -/

/-- The clause `written` of the invariant, by evaluating it at every count that a slot was written for. -/
theorem allWritten {s : State} (h : ((List.range s.npush).all fun k => (s.slotWritten k).all Option.isSome) = true) :
    ∀ k < s.npush, s.npop ≤ k → ∀ o ∈ s.slotWritten k, o.isSome = true :=
  fun k hk _ o ho => List.all_eq_true.1 (List.all_eq_true.1 h k (List.mem_range.2 hk)) o ho

theorem test_inv_bothBusy : bothBusy.Inv :=
  ⟨by decide, by decide, by decide, by decide, by decide, by decide, by decide, by decide, by decide, allWritten rfl,
   ⟨by decide, by decide, by decide⟩, ⟨by decide, by decide⟩⟩

theorem test_inv_publishing : publishing.Inv :=
  ⟨by decide, by decide, by decide, by decide, by decide, by decide, by decide, by decide, by decide, allWritten rfl,
   ⟨by decide, by decide, by decide, by decide⟩, trivial⟩

theorem test_inv_releasing : releasing.Inv :=
  ⟨by decide, by decide, by decide, by decide, by decide, by decide, by decide, by decide, by decide, allWritten rfl,
   trivial, ⟨by decide, by decide, by decide⟩⟩

theorem test_inv_testingFull : testingFull.Inv :=
  ⟨by decide, by decide, by decide, by decide, by decide, by decide, by decide, by decide, by decide, allWritten rfl,
   ⟨by decide, by decide, by decide⟩, trivial⟩

theorem test_inv_testingEmpty : testingEmpty.Inv :=
  ⟨by decide, by decide, by decide, by decide, by decide, by decide, by decide, by decide, by decide, allWritten rfl,
   trivial, ⟨by decide, by decide⟩⟩

/-- The producer has loaded `head` while the consumer is about to load `tail`. -/
theorem test_inv_loading : (ringAt .prod 0 1 1 1 slotOne (prodAt .p2 0 0) (consAt .c2 1 0 [])).Inv :=
  ⟨by decide, by decide, by decide, by decide, by decide, by decide, by decide, by decide, by decide, allWritten rfl,
   ⟨by decide, by decide⟩, by decide⟩

/-- The invariant refuses a slot that is queued but not written, and a tail that does not follow its count. -/
theorem test_inv_refuses :
    ¬(ringAt .prod 0 0 0 1 [] (prodAt .idle 0 0) (consAt .idle 0 0 [])).Inv ∧
    ¬({ publishing with tail := 2 } : State).Inv :=
  ⟨fun h => absurd (h.written 0 (by decide) (by decide)) (by decide), fun h => absurd h.tail (by decide)⟩

theorem test_witness_ResetSatisfiesTheRingInvariant : Params.default.wf = true := by decide

/-- The statements about one step from a state with the invariant: a turn of each agent, and reset. -/
theorem test_witness_steps_with_invariant :
    (∃ t, step { publishing with sched := [.move .prod 0] } = .next t ∧ t.npush = 2) ∧
    (∃ t, step { releasing with sched := [.move .cons 0] } = .next t ∧ t.npop = 1) ∧
    (∃ t, step { bothBusy with sched := [.move .cons 0] } = .next t ∧ t.cons.phase = .c5) ∧
    (∃ t, step { bothBusy with sched := [.reset] } = .next t ∧ t.npush = 0) :=
  ⟨⟨_, rfl, rfl⟩, ⟨_, rfl, rfl⟩, ⟨_, rfl, rfl⟩, ⟨_, rfl, rfl⟩⟩

/-- The same states with a turn to come keep the invariant they had: it does not look at the schedule. -/
theorem test_witness_StepKeepsTheRingInvariant :
    ({ publishing with sched := [.move .prod 0] } : State).Inv ∧ ({ releasing with sched := [.move .cons 0] } : State).Inv :=
  ⟨⟨by decide, by decide, by decide, by decide, by decide, by decide, by decide, by decide, by decide, allWritten rfl,
    ⟨by decide, by decide, by decide, by decide⟩, trivial⟩,
   ⟨by decide, by decide, by decide, by decide, by decide, by decide, by decide, by decide, by decide, allWritten rfl,
    trivial, ⟨by decide, by decide, by decide⟩⟩⟩

/-- RingIsAFifoQueue: both clauses about an agent that moves the queue are met. -/
theorem test_witness_RingIsAFifoQueue :
    publishing.prod.phase = .p5 ∧ publishing.queue = [[0xA0, 0xA1]] ∧
    releasing.cons.phase = .c5 ∧ releasing.queue = [[0xA0, 0xA1], [0xB0, 0xB1]] :=
  ⟨rfl, rfl, rfl, rfl⟩

/-- DeliveredInOrder: a run of one step that ends a push. -/
theorem test_witness_DeliveredInOrder :
    ({ publishing with sched := [.move .prod 0] } : State).Inv ∧
    (∀ turn ∈ ({ publishing with sched := [.move .prod 0] } : State).sched.take 1, turn ≠ .reset) ∧
    (∃ t, Host.Core.run Sys2Proof.core 1 { publishing with sched := [.move .prod 0] } = .next t) ∧
    pushedWords 1 { publishing with sched := [.move .prod 0] } = [[0xB0, 0xB1]] ∧
    poppedWords 1 { releasing with sched := [.move .cons 0] } = [[0xA0, 0xA1]] ∧ State.reset.queue = [] :=
  ⟨test_witness_StepKeepsTheRingInvariant.1, by decide, ⟨_, rfl⟩, rfl, rfl, rfl⟩

theorem test_witness_NoDataRaceOnASlot : bothBusy.Inv ∧ bothBusy.prod.phase = .p4 ∧ bothBusy.cons.phase = .c4 :=
  ⟨test_inv_bothBusy, rfl, rfl⟩

theorem test_witness_OccupancyIsAtMostCapacity : releasing.Inv ∧ releasing.queue.length = releasing.params.capacity :=
  ⟨test_inv_releasing, rfl⟩

/-- FullAndEmptyFollowTheViews: the queue full, and the view empty while one element is queued. -/
theorem test_witness_FullAndEmptyFollowTheViews :
    testingFull.Inv ∧ testingFull.port = .prod ∧ testingFull.prod.phase = .p3 ∧ testingFull.queue.length = 2 ∧
    testingEmpty.Inv ∧ testingEmpty.port = .cons ∧ testingEmpty.cons.phase = .c3 ∧ testingEmpty.vt = testingEmpty.npop :=
  ⟨test_inv_testingFull, rfl, rfl, rfl, test_inv_testingEmpty, rfl, rfl, rfl⟩

theorem test_witness_StepNeverStops : (prodAsks 0x30000000).Inv ∧ (prodAsks 0x30000000).envOk :=
  ⟨⟨by decide, by decide, by decide, by decide, by decide, by decide, by decide, by decide, by decide, allWritten rfl,
    trivial, trivial⟩, by unfold State.envOk; decide⟩

/-- TransactionsAreBounded: a turn of the busy port itself and of the other port; transactions in flight on both ports with no
turn to come, and one that a reset aborts. The endless runs are those of StrongViewsAreFair. -/
theorem test_witness_TransactionsAreBounded :
    ({ bothBusy with sched := [.move .cons 0] } : State).nextTurn = some (.move .cons 0) ∧
    (∃ t, step { bothBusy with sched := [.move .cons 0] } = .next t ∧ t.stepsLeft .prod = 2 ∧ t.stepsLeft .cons = 1) ∧
    bothBusy.Inv ∧ bothBusy.envOk ∧ bothBusy.stepsLeft .prod = 2 ∧ bothBusy.stepsLeft .cons = 2 ∧ bothBusy.sched = [] ∧
    (∃ t, Host.Core.run Sys2Proof.core 1 { bothBusy with sched := [.reset] } = .next t ∧ t.stepsLeft .prod = 0 ∧
      t.responseOn .prod = none) :=
  ⟨rfl, ⟨_, rfl, rfl, rfl⟩, test_inv_bothBusy, by unfold State.envOk; decide, rfl, rfl, rfl, _, rfl, rfl, rfl⟩

theorem test_witness_ViewsAndCountersOnlyGrow :
    ({ publishing with sched := [.move .prod 0] } : State).nextTurn ≠ some .reset ∧ publishing.nextTurn ≠ some .reset :=
  ⟨by decide, fun h => by obtain ⟨_, h⟩ := State.sched_of_nextTurn_reset h; cases h⟩

/-- A push that will find room, one element queued. -/
abbrev roomForPush : State :=
  { ringAt .prod 0 0 1 1 slotOne (prodAt .idle 0 0) (consAt .idle 0 0 []) with
    prodIO := { block.prodIO with pending := [requestOf 0x30000000] }
    sched := turnsOf .prod [0, 0, 0, 0, 0, 0] }

/-- A push that will find the ring full. -/
abbrev noRoomForPush : State :=
  { ringAt .prod 0 0 1 2 slotTwo (prodAt .idle 0 0) (consAt .idle 0 0 []) with
    prodIO := { block.prodIO with pending := [requestOf 0x30000000] }
    sched := turnsOf .prod [0, 0, 0, 0] }

theorem test_witness_PushStoresOrHandsBack :
    roomForPush.Inv ∧ roomForPush.prod.phase = .idle ∧ roomForPush.prodIO.pending = requestOf 0x30000000 :: [] ∧
    (requestOf 0x30000000).cmd = encode .rbPush ∧ (requestOf 0x30000000).wf roomForPush.params = true ∧
    roomForPush.npush < roomForPush.vh + roomForPush.params.capacity ∧
    roomForPush.sched = turnsOf .prod [0, 0, 0, 0, 0, 0] ++ [] ∧
    noRoomForPush.Inv ∧ noRoomForPush.npush = noRoomForPush.npop + noRoomForPush.params.capacity ∧
    noRoomForPush.sched = turnsOf .prod [0, 0, 0, 0] ++ [] :=
  ⟨⟨by decide, by decide, by decide, by decide, by decide, by decide, by decide, by decide, by decide, allWritten rfl,
    trivial, trivial⟩, rfl, rfl, rfl, by decide, by decide, rfl,
   ⟨by decide, by decide, by decide, by decide, by decide, by decide, by decide, by decide, by decide, allWritten rfl,
    trivial, trivial⟩, rfl, rfl⟩

/-- A pop that has seen one of two elements. -/
abbrev elementToPop : State :=
  { ringAt .cons 0 0 1 2 slotTwo (prodAt .idle 0 0) (consAt .idle 0 0 []) with
    consIO := { block.consIO with pending := [requestOf 0x31000000] }
    sched := turnsOf .cons [0, 0, 0, 0, 0, 0] }

/-- A pop that will find the ring empty. -/
abbrev nothingToPop : State :=
  { ringAt .cons 0 1 1 1 slotOne (prodAt .idle 0 0) (consAt .idle 0 0 []) with
    consIO := { block.consIO with pending := [requestOf 0x31000000] }
    sched := turnsOf .cons [0, 0, 0, 0] }

theorem test_witness_PopReturnsTheOldestOrEmpty :
    elementToPop.Inv ∧ elementToPop.cons.phase = .idle ∧ elementToPop.consIO.pending = requestOf 0x31000000 :: [] ∧
    (requestOf 0x31000000).cmd = encode .rbPop ∧ elementToPop.npop < elementToPop.vt ∧
    elementToPop.sched = turnsOf .cons [0, 0, 0, 0, 0, 0] ++ [] ∧
    nothingToPop.Inv ∧ nothingToPop.npush = nothingToPop.npop ∧ nothingToPop.sched = turnsOf .cons [0, 0, 0, 0] ++ [] :=
  ⟨⟨by decide, by decide, by decide, by decide, by decide, by decide, by decide, by decide, by decide, allWritten rfl,
    trivial, trivial⟩, rfl, rfl, rfl, by decide, rfl,
   ⟨by decide, by decide, by decide, by decide, by decide, by decide, by decide, by decide, by decide, allWritten rfl,
    trivial, trivial⟩, rfl, rfl⟩

/-! ### Endless runs with `STALE_VIEWS` false -/

/-- The producer tries the same push again and again on a full ring, four turns each time. -/
def retryInput (t : Nat) : Input :=
  { turn := .move .prod 0, prodRequests := if t % 4 = 0 then [requestOf 0x30000000] else [], consRequests := [] }

/-- The states of that run, by the moment modulo 4; the ring is full and both agents have seen all. -/
def retryRun (t : Nat) : State :=
  let at4 := fun (phase : ProdPhase) (h tl : Nat) (rsp : Option Response) =>
    { ringAt .prod 0 0 2 2 slotTwo { phase := phase, h := h, t := tl, d := [0xC0, 0xC1] } (consAt .idle 0 0 []) with
      params := { Params.default with staleViews := false }
      prodIO := { pending := [], req := requestOf 0x30000000, rsp := rsp } }
  if t % 4 = 0 then
    at4 .idle 0 2 (some { status := .full, lanes := { Lanes.zero 2 with d := [0xC0, 0xC1] } })
  else if t % 4 = 1 then at4 .p1 0 2 none
  else if t % 4 = 2 then at4 .p2 0 2 none
  else at4 .p3 0 2 none

/-- StrongViewsAreFair: an endless run in which the producer loads `head` for ever. -/
theorem test_witness_StrongViewsAreFair_head :
    IsRun retryInput retryRun ∧ (retryRun 0).Inv ∧ (retryRun 0).params.staleViews = false ∧
    (0 < (retryRun 1).stepsLeft .prod) ∧ ∀ t, ∃ u, t ≤ u ∧ LoadsHead retryInput retryRun u := by
  refine ⟨⟨fun t => ?_, fun t p hp => ?_⟩, ?_, rfl, by decide, fun t => ?_⟩
  · have h : t % 4 = 0 ∨ t % 4 = 1 ∨ t % 4 = 2 ∨ t % 4 = 3 := by omega
    rcases h with h | h | h | h
    · have h' : (t + 1) % 4 = 1 := by omega
      simp only [retryInput, retryRun, h, h']; rfl
    · have h' : (t + 1) % 4 = 2 := by omega
      simp only [retryInput, retryRun, h, h']; rfl
    · have h' : (t + 1) % 4 = 3 := by omega
      simp only [retryInput, retryRun, h, h']; rfl
    · have h' : (t + 1) % 4 = 0 := by omega
      simp only [retryInput, retryRun, h, h']; rfl
  · cases p with
    | prod => exact ⟨t, Nat.le_refl t, .inr ⟨0, rfl⟩⟩
    | cons =>
      have h0 : (retryRun t).stepsLeft .cons = 0 := by unfold retryRun; dsimp only; split_ifs <;> rfl
      omega
  · exact ⟨by decide, by decide, by decide, by decide, by decide, by decide, by decide, by decide, by decide, allWritten rfl,
      trivial, trivial⟩
  · refine ⟨4 * t + 1, by omega, ?_, 0, rfl⟩
    have h : (4 * t + 1) % 4 = 1 := by omega
    simp only [retryRun, h]; rfl

/-- The consumer pops an empty ring again and again, four turns each time. -/
def pollInput (t : Nat) : Input :=
  { turn := .move .cons 0, prodRequests := [], consRequests := if t % 4 = 0 then [requestOf 0x31000000] else [] }

/-- The states of that run, by the moment modulo 4. -/
def pollRun (t : Nat) : State :=
  let at4 := fun (phase : ConsPhase) (rsp : Option Response) =>
    { ringAt .cons 0 0 0 0 [] (prodAt .idle 0 0) (consAt phase 0 0 []) with
      params := { Params.default with staleViews := false }
      consIO := { pending := [], req := requestOf 0x31000000, rsp := rsp } }
  if t % 4 = 0 then at4 .idle (some { status := .empty, lanes := Lanes.zero 2 })
  else if t % 4 = 1 then at4 .c1 none
  else if t % 4 = 2 then at4 .c2 none
  else at4 .c3 none

/-- StrongViewsAreFair: an endless run in which the consumer loads `tail` for ever. -/
theorem test_witness_StrongViewsAreFair_tail :
    IsRun pollInput pollRun ∧ (pollRun 0).Inv ∧ (pollRun 0).params.staleViews = false ∧
    (0 < (pollRun 1).stepsLeft .cons) ∧ ∀ t, ∃ u, t ≤ u ∧ LoadsTail pollInput pollRun u := by
  refine ⟨⟨fun t => ?_, fun t p hp => ?_⟩, ?_, rfl, by decide, fun t => ?_⟩
  · have h : t % 4 = 0 ∨ t % 4 = 1 ∨ t % 4 = 2 ∨ t % 4 = 3 := by omega
    rcases h with h | h | h | h
    · have h' : (t + 1) % 4 = 1 := by omega
      simp only [pollInput, pollRun, h, h']; rfl
    · have h' : (t + 1) % 4 = 2 := by omega
      simp only [pollInput, pollRun, h, h']; rfl
    · have h' : (t + 1) % 4 = 3 := by omega
      simp only [pollInput, pollRun, h, h']; rfl
    · have h' : (t + 1) % 4 = 0 := by omega
      simp only [pollInput, pollRun, h, h']; rfl
  · cases p with
    | cons => exact ⟨t, Nat.le_refl t, .inr ⟨0, rfl⟩⟩
    | prod =>
      have h0 : (pollRun t).stepsLeft .prod = 0 := by unfold pollRun; dsimp only; split_ifs <;> rfl
      omega
  · exact ⟨by decide, by decide, by decide, by decide, by decide, by decide, by decide, by decide, by decide, allWritten rfl,
      trivial, trivial⟩
  · refine ⟨4 * t + 2, by omega, ?_, 0, rfl⟩
    have h : (4 * t + 2) % 4 = 2 := by omega
    simp only [pollRun, h]; rfl

/-! ### Sizes and the wire view -/

theorem test_witness_FrameSizes :
    4 ≤ ({ HdrRecord.zero with frameLen8 := 4 } : HdrRecord).frameLen8.toNat ∧
    ({ HdrRecord.zero with frameLen8 := 3 } : HdrRecord).frameLen8.toNat < 4 ∧
    ({ HdrRecord.zero with frameLen8 := 16777215, bpsM1 := 31, log2Chans := 31 } : HdrRecord).inWidth = true ∧
    payloadWords { HdrRecord.zero with frameLen8 := 16777215 } = some 33554422 := by decide

theorem test_witness_WireViewIsLittleEndian :
    ([0x0A0B0C0D] : List Word)[0]? = some 0x0A0B0C0D ∧
    (frameToBytes (Vector.replicate 8 0) [0x0A0B0C0D])[payloadOffset 0 + 3]? = some 0x0A := by decide

end Sys2Proof.Tests
end

