-- ==== Sys2Proof/Proofs/Scope.lean ====
section
/-! PROOFS. The turn of an idle port that is presented a command, and the model's own stops. -/

namespace Sys2Proof.Machine

/-! ## The turn of an idle port with a request -/

/-- A step whose next turn is an agent's is a step of that agent's port. -/
theorem step_of_move {s : State} {p : Port} {draw : Nat} (h : s.nextTurn = some (.move p draw)) :
    step s = stepPort (s.takeTurn p draw) := by
  rw [step, h]

/-- A port takes the first of the requests its master has to present. -/
theorem State.fetch_of_pending {s : State} {r : Request} {rs : List Request} (h : s.io.pending = r :: rs) :
    s.fetch = some (s.taken r rs) := by
  rw [State.fetch, h]

/-- An idle port that is presented a command runs its first step (R91). -/
theorem stepPort_of_command {s : State} {r : Request} {rs : List Request} {i : Instr} (hidle : s.portIdle = true)
    (hpending : s.io.pending = r :: rs) (hdecode : decode r.cmd = .ok i) : stepPort s = exec i (s.taken r rs) := by
  rw [stepPort, if_pos hidle, State.fetch_of_pending hpending]
  simp only [State.request_taken, hdecode]

/-! ## Commands on a busy port -/

theorem State.codec_busy {s : State} (h : s.portIdle = false) (f : Params → Lanes → Lanes) :
    s.codec f = .refused .portBusy := by
  simp [State.codec, h]

/-- The consumer port has no step of `RB.PUSH` for a transaction in flight. -/
theorem exec_rbPush_cons_busy {s : State} (hport : s.port = .cons) (hbusy : s.portIdle = false) :
    exec .rbPush s = .refused .portBusy := by
  simp [exec, execRbPush, hport, hbusy]

/-- The producer port has no step of `RB.POP` for a transaction in flight. -/
theorem exec_rbPop_prod_busy {s : State} (hport : s.port = .prod) (hbusy : s.portIdle = false) :
    exec .rbPop s = .refused .portBusy := by
  simp [exec, execRbPop, hport, hbusy]

/-! ## The steps that can stop: P0, P4, C4 -/

theorem exec_rbPush_idle {s : State} (hport : s.port = .prod) (hphase : s.prod.phase = .idle) :
    exec .rbPush s = pushAccept s := by
  simp only [exec, execRbPush, hport, hphase]

theorem exec_rbPush_p4 {s : State} (hport : s.port = .prod) (hphase : s.prod.phase = .p4) :
    exec .rbPush s = pushCopyIn s := by
  simp only [exec, execRbPush, hport, hphase]

theorem exec_rbPop_c4 {s : State} (hport : s.port = .cons) (hphase : s.cons.phase = .c4) :
    exec .rbPop s = popCopyOut s := by
  simp only [exec, execRbPop, hport, hphase]

/-- A request is well formed just when its `D` lanes are exactly `L` words (R302). -/
theorem Request.wf_iff {p : Params} {r : Request} : r.wf p = true ↔ r.lanes.d.length = p.slotWords := by
  rw [Request.wf, beq_iff_eq]

theorem pushAccept_of_length_ne {s : State} (h : s.request.lanes.d.length ≠ s.params.slotWords) :
    pushAccept s = .refused .payloadLength := by
  rw [pushAccept, if_neg (mt Request.wf_iff.1 h)]

/-- A position of `2C` or more names no slot of the ring (log 16). -/
theorem capacity_le_slotOf {c p : Nat} (h : 2 * c ≤ p) : c ≤ slotOf c p := by
  unfold slotOf
  split <;> omega

/-- The slot of a position of `2C` or more is outside slot memory, where slots have words: its last word would be at
address `C*L` or above. -/
theorem State.slotInside_of_le {s : State} {p : Nat} (hwf : s.params.wf = true) (h : 2 * s.params.capacity ≤ p) :
    s.slotInside (s.slotBase p) = false := by
  have hwords : 1 ≤ s.params.slotWords := Params.slotWords_pos hwf
  have hbase : s.params.capacity * s.params.slotWords ≤ s.slotBase p :=
    Nat.mul_le_mul_right s.params.slotWords (capacity_le_slotOf h)
  rw [State.slotInside, decide_eq_false_iff_not]
  omega

theorem pushCopyIn_of_outside {s : State} (h : s.slotInside (s.slotBase s.prod.t) = false) :
    pushCopyIn s = .fault (.slotAddress (s.slotBase s.prod.t)) := by
  simp [pushCopyIn, h]

theorem popCopyOut_of_outside {s : State} (h : s.slotInside (s.slotBase s.cons.h) = false) :
    popCopyOut s = .fault (.slotAddress (s.slotBase s.cons.h)) := by
  simp [popCopyOut, h]

/-! ## The obligations -/

/-- Settles O4: the turn is a step of the acting port, which takes the request and runs the command it decodes to. -/
theorem stepRunsTheDecodedCommand : Obligations.StepRunsTheDecodedCommand := by
  unfold Obligations.StepRunsTheDecodedCommand
  intro s p draw r rs i hturn hidle hpending hdecode
  calc step s
    _ = stepPort (s.takeTurn p draw) := step_of_move hturn
    _ = exec i ((s.takeTurn p draw).taken r rs) := stepPort_of_command hidle hpending hdecode

/-- Settles O30: a busy port refuses every command that is not its transaction's, P0 refuses a payload of another length
than `L`, and P4 and C4 fault on the slot of a position of `2C` or more. -/
theorem stopsOfTheModel : Obligations.StopsOfTheModel := by
  unfold Obligations.StopsOfTheModel
  refine ⟨?codec, fun s => exec_rbPush_cons_busy, fun s => exec_rbPop_prod_busy, ?payload, ?copyIn, ?copyOut⟩
  case codec =>
    intro i s hcodec hbusy
    obtain ⟨f, hf⟩ := exec_codec hcodec
    rw [hf, State.codec_busy hbusy]
  case payload =>
    intro s hport hphase hlength
    rw [exec_rbPush_idle hport hphase, pushAccept_of_length_ne hlength]
  case copyIn =>
    intro s hwf hport hphase ht
    exact ⟨_, (exec_rbPush_p4 hport hphase).trans (pushCopyIn_of_outside (State.slotInside_of_le hwf ht))⟩
  case copyOut =>
    intro s hwf hport hphase hh
    exact ⟨_, (exec_rbPop_c4 hport hphase).trans (popCopyOut_of_outside (State.slotInside_of_le hwf hh))⟩

end Sys2Proof.Machine
end

/-! PROOFS. The state of the block: positions and occupancy, what the turn of each agent can do and what it leaves unchanged,
and the frame of the codec commands. -/

namespace Sys2Proof.Machine

/-! ## Positions -/

theorem slotOf_eq_mod {c p : Nat} (h : p < 2 * c) : slotOf c p = p % c := by
  rw [← slotOf_mod (by omega), Nat.mod_eq_of_lt h]

theorem inc_eq_mod {c p : Nat} (h : p < 2 * c) : inc c p = (p + 1) % (2 * c) := by
  rw [← inc_mod (by omega), Nat.mod_eq_of_lt h]

/-- The distance to a position that is not behind is the difference (R28). -/
theorem distance_of_le {c h t : Nat} (ht : t < 2 * c) (hle : h ≤ t) : distance c h t = t - h := by
  rw [distance, show t + 2 * c - h = t - h + 2 * c by omega, Nat.add_mod_right, Nat.mod_eq_of_lt (by omega)]

/-- The distance to a position behind goes once round the `2C` positions (R28). -/
theorem distance_of_lt {c h t : Nat} (hh : h < 2 * c) (hlt : t < h) : distance c h t = t + 2 * c - h := by
  rw [distance, Nat.mod_eq_of_lt (by omega)]

theorem distance_lt {c h t : Nat} (ht : t < 2 * c) : distance c h t < 2 * c :=
  Nat.mod_lt _ (by omega)

/-- The distance is the difference of the positions modulo `2C`, taken in the integers (R28). -/
theorem cast_distance {c h t : Nat} (hh : h < 2 * c) : (distance c h t : Int) = ((t : Int) - h) % (2 * c) := by
  have hsum : ((t + 2 * c - h : Nat) : Int) = (t : Int) - h + 2 * c := by omega
  rw [distance, Int.natCast_emod, hsum, Nat.cast_mul, Nat.cast_ofNat, Int.add_emod_right]

theorem distance_eq_zero_iff {c h t : Nat} (hh : h < 2 * c) (ht : t < 2 * c) : distance c h t = 0 ↔ h = t := by
  rcases Nat.lt_or_ge t h with hlt | hle
  · rw [distance_of_lt hh hlt]; omega
  · rw [distance_of_le ht hle]; omega

/-- Opposite positions are `C` apart in either direction: the two distances add up to `2C` (R28). -/
theorem distance_eq_capacity_comm {c h t : Nat} (hh : h < 2 * c) (ht : t < 2 * c) :
    distance c h t = c ↔ distance c t h = c := by
  rcases Nat.lt_trichotomy t h with hlt | rfl | hlt
  · rw [distance_of_lt hh hlt, distance_of_le hh hlt.le]; omega
  · rfl
  · rw [distance_of_le ht hlt.le, distance_of_lt ht hlt]; omega

/-! ## Occupancy -/

theorem State.length_queue (s : State) : s.queue.length = s.npush - s.npop := by
  rw [State.queue, List.length_map, List.length_range]

/-- The counters of a state with the invariant differ by 0 to `C` (R317). -/
theorem State.Inv.counters {s : State} (hinv : s.Inv) : s.npop ≤ s.npush ∧ s.npush ≤ s.npop + s.params.capacity := by
  have hvh := hinv.vh_le
  have hpop := hinv.pop_le_vt
  have hvt := hinv.vt_le
  have hroom := hinv.room
  omega

theorem State.Inv.distance_cursors {s : State} (hinv : s.Inv) :
    distance s.params.capacity s.head s.tail = s.npush - s.npop := by
  obtain ⟨hle, hroom⟩ := hinv.counters
  have hcap := Params.capacity_pos hinv.params
  rw [hinv.head, hinv.tail]
  exact distance_mod hle (by omega)

theorem State.Inv.cursors_eq_iff {s : State} (hinv : s.Inv) : s.head = s.tail ↔ s.npop = s.npush := by
  obtain ⟨hle, hroom⟩ := hinv.counters
  have hcap := Params.capacity_pos hinv.params
  rw [hinv.head, hinv.tail]
  exact mod_inj hle (by omega)

/-! ## Which turn is next, and what it runs -/

theorem State.portIdle_prod {s : State} (hport : s.port = .prod) : s.portIdle = true ↔ s.prod.phase = .idle := by
  rw [State.portIdle, hport, beq_iff_eq]

theorem State.portIdle_cons {s : State} (hport : s.port = .cons) : s.portIdle = true ↔ s.cons.phase = .idle := by
  rw [State.portIdle, hport, beq_iff_eq]

/-- A busy port goes on with its transaction (R302, R310). -/
theorem stepPort_of_busy {s : State} (hbusy : ¬s.portIdle = true) : stepPort s = exec s.inFlight s := by
  rw [stepPort, if_neg hbusy]

/-- The turn of an idle port without a request changes nothing (R376). -/
theorem stepPort_of_no_request {s : State} (hidle : s.portIdle = true) (hpending : s.io.pending = []) :
    stepPort s = .next s := by
  rw [stepPort, if_pos hidle, State.fetch, hpending]

theorem step_of_no_turn {s : State} (h : s.nextTurn = none) : step s = .next s := by
  rw [step, h]

/-- With both ports idle no transaction is in flight. -/
theorem State.stepsLeft_eq_zero {s : State} (hprod : s.prod.phase = .idle) (hcons : s.cons.phase = .idle) (p : Port) :
    s.stepsLeft p = 0 := by
  cases p
  · rw [State.stepsLeft, hprod]
  · rw [State.stepsLeft, hcons]

/-- When the schedule has ended with a transaction in flight, a busy port moves (R356, log 22). -/
theorem State.nextTurn_of_inFlight {s : State} {p : Port} (hsched : s.sched = []) (hleft : 0 < s.stepsLeft p) :
    ∃ q draw, s.nextTurn = some (.move q draw) ∧ 0 < s.stepsLeft q := by
  cases hturn : s.nextTurn with
  | none =>
    obtain ⟨-, hprod, hcons⟩ := State.nextTurn_none.1 hturn
    rw [State.stepsLeft_eq_zero hprod hcons] at hleft
    exact absurd hleft (Nat.lt_irrefl 0)
  | some turn =>
    have hrest : s.restTurn = some turn := by rw [← hturn, State.nextTurn, hsched]
    obtain ⟨q, draw, rfl, hq⟩ := State.restTurn_cases hrest
    exact ⟨q, draw, rfl, hq⟩

/-! ## What the turn of an agent can do -/

theorem State.setIO_io (s : State) : s.setIO s.io = s := by
  unfold State.setIO State.io
  split <;> rfl

/-- A command that is not the acting port's own ring command writes the lanes of that port and nothing else: it is a codec
command, or the other port's ring command, which is illegal here (R37, R344). -/
theorem exec_eq_setIO {i : Instr} {s t : State} (hother : i ≠ s.inFlight) (h : exec i s = .next t) :
    ∃ io, t = s.setIO io := by
  rcases codec_or_ring i with hcodec | rfl | rfl
  · obtain ⟨f, hf⟩ := exec_codec hcodec
    rcases s.codec_cases f with ⟨-, hnext⟩ | ⟨-, hrefused⟩
    · rw [hf, hnext] at h
      exact ⟨_, (Host.Outcome.next.inj h).symm⟩
    · rw [hf, hrefused] at h
      cases h
  · rcases push_cases h with ⟨-, -, rfl⟩ | ⟨hport, -⟩
    · exact ⟨_, rfl⟩
    · exact absurd (by rw [State.inFlight, hport]) hother
  · rcases pop_cases h with ⟨-, -, rfl⟩ | ⟨hport, -⟩
    · exact ⟨_, rfl⟩
    · exact absurd (by rw [State.inFlight, hport]) hother

/-- The step of an idle port writes the lanes of that port and nothing else, or begins the port's ring transaction. -/
theorem stepPort_idle_cases {s t : State} (hidle : s.portIdle = true) (h : stepPort s = .next t) :
    (∃ io, t = s.setIO io) ∨
    (∃ r rs, s.io.pending = r :: rs ∧ decode r.cmd = .ok s.inFlight ∧ exec s.inFlight (s.taken r rs) = .next t) := by
  rcases stepPort_cases h with ⟨-, -, rfl⟩ | ⟨r, rs, -, hpending, hrequest⟩ | ⟨hbusy, -⟩
  · exact .inl ⟨t.io, t.setIO_io.symm⟩
  · rcases hrequest with ⟨i, hdecode, hexec⟩ | ⟨e, -, rfl⟩
    · by_cases hown : i = s.inFlight
      · subst hown
        exact .inr ⟨r, rs, hpending, hdecode, hexec⟩
      · obtain ⟨io, rfl⟩ := exec_eq_setIO (s := s.taken r rs) hown hexec
        exact .inl ⟨io, State.setIO_setIO s _ io⟩
    · exact .inl ⟨_, State.setIO_setIO s _ _⟩
  · rw [hidle] at hbusy
    cases hbusy

/-- Everything the turn of the producer can do: with its port idle, write the port's lanes or accept a push (P0); else the
micro-step its phase names (R302 to R307). -/
inductive ProdStep (s : State) : State → Prop
  | lanes (io : PortIO) (hphase : s.prod.phase = .idle) : ProdStep s (s.setIO io)
  | accept (r : Request) (rs : List Request) (hphase : s.prod.phase = .idle) (hpending : s.io.pending = r :: rs)
      (hdecode : decode r.cmd = .ok .rbPush) (hwf : r.wf s.params = true) : ProdStep s (pushLatch (s.taken r rs))
  | loadHead (hphase : s.prod.phase = .p1) : ProdStep s (pushLoadHead s)
  | loadTail (hphase : s.prod.phase = .p2) : ProdStep s (pushLoadTail s)
  | test (hphase : s.prod.phase = .p3) : ProdStep s (pushTest s)
  | copyIn (hphase : s.prod.phase = .p4) (hinside : s.slotInside (s.slotBase s.prod.t) = true) : ProdStep s (pushCopy s)
  | publish (hphase : s.prod.phase = .p5) : ProdStep s (pushPublish s)

/-- Everything the turn of the consumer can do: with its port idle, write the port's lanes or accept a pop (C0); else the
micro-step its phase names (R310 to R315). -/
inductive ConsStep (s : State) : State → Prop
  | lanes (io : PortIO) (hphase : s.cons.phase = .idle) : ConsStep s (s.setIO io)
  | accept (r : Request) (rs : List Request) (hphase : s.cons.phase = .idle) (hpending : s.io.pending = r :: rs)
      (hdecode : decode r.cmd = .ok .rbPop) : ConsStep s (popAccept (s.taken r rs))
  | loadHead (hphase : s.cons.phase = .c1) : ConsStep s (popLoadHead s)
  | loadTail (hphase : s.cons.phase = .c2) : ConsStep s (popLoadTail s)
  | test (hphase : s.cons.phase = .c3) : ConsStep s (popTest s)
  | copyOut (hphase : s.cons.phase = .c4) (hinside : s.slotInside (s.slotBase s.cons.h) = true) : ConsStep s (popCopy s)
  | release (hphase : s.cons.phase = .c5) : ConsStep s (popRelease s)

theorem prodStep_of_stepPort {s t : State} (hport : s.port = .prod) (h : stepPort s = .next t) : ProdStep s t := by
  have hown : s.inFlight = .rbPush := by rw [State.inFlight, hport]
  by_cases hidle : s.portIdle = true
  · have hphase := (State.portIdle_prod hport).1 hidle
    rcases stepPort_idle_cases hidle h with ⟨io, rfl⟩ | ⟨r, rs, hpending, hdecode, hexec⟩
    · exact .lanes io hphase
    · rw [hown] at hdecode hexec
      rcases push_cases hexec with ⟨hcons, -, -⟩ | ⟨-, ⟨-, hlength, rfl⟩ | hlater⟩
      · rw [State.taken_port, hport] at hcons
        cases hcons
      · rw [State.request_taken, State.taken_params] at hlength
        exact .accept r rs hphase hpending hdecode (Request.wf_iff.2 hlength)
      · simp [hphase] at hlater
  · rw [stepPort_of_busy hidle, hown] at h
    rcases push_cases h with ⟨hcons, -, -⟩ | ⟨-, ⟨hphase, -, -⟩ | ⟨hphase, rfl⟩ | ⟨hphase, rfl⟩ | ⟨hphase, rfl⟩ |
      ⟨hphase, hinside, rfl⟩ | ⟨hphase, rfl⟩⟩
    · rw [hport] at hcons
      cases hcons
    · exact absurd ((State.portIdle_prod hport).2 hphase) hidle
    · exact .loadHead hphase
    · exact .loadTail hphase
    · exact .test hphase
    · exact .copyIn hphase hinside
    · exact .publish hphase

theorem consStep_of_stepPort {s t : State} (hport : s.port = .cons) (h : stepPort s = .next t) : ConsStep s t := by
  have hown : s.inFlight = .rbPop := by rw [State.inFlight, hport]
  by_cases hidle : s.portIdle = true
  · have hphase := (State.portIdle_cons hport).1 hidle
    rcases stepPort_idle_cases hidle h with ⟨io, rfl⟩ | ⟨r, rs, hpending, hdecode, hexec⟩
    · exact .lanes io hphase
    · rw [hown] at hdecode hexec
      rcases pop_cases hexec with ⟨hprod, -, -⟩ | ⟨-, ⟨-, rfl⟩ | hlater⟩
      · rw [State.taken_port, hport] at hprod
        cases hprod
      · exact .accept r rs hphase hpending hdecode
      · simp [hphase] at hlater
  · rw [stepPort_of_busy hidle, hown] at h
    rcases pop_cases h with ⟨hprod, -, -⟩ | ⟨-, ⟨hphase, -⟩ | ⟨hphase, rfl⟩ | ⟨hphase, rfl⟩ | ⟨hphase, rfl⟩ |
      ⟨hphase, hinside, rfl⟩ | ⟨hphase, rfl⟩⟩
    · rw [hport] at hprod
      cases hprod
    · exact absurd ((State.portIdle_cons hport).2 hphase) hidle
    · exact .loadHead hphase
    · exact .loadTail hphase
    · exact .test hphase
    · exact .copyOut hphase hinside
    · exact .release hphase

/-- A step whose next turn is the producer's. -/
theorem prodStep_of_step {s t : State} {draw : Nat} (hturn : s.nextTurn = some (.move .prod draw))
    (h : step s = .next t) : ProdStep (s.takeTurn .prod draw) t :=
  prodStep_of_stepPort rfl (step_of_move hturn ▸ h)

/-- A step whose next turn is the consumer's. -/
theorem consStep_of_step {s t : State} {draw : Nat} (hturn : s.nextTurn = some (.move .cons draw))
    (h : step s = .next t) : ConsStep (s.takeTurn .cons draw) t :=
  consStep_of_stepPort rfl (step_of_move hturn ▸ h)

/-! ## What the turn of an agent leaves unchanged -/

/-- The states agree on all that the producer may not write: everything but `tail`, slot memory, `vh`, `npush`, the
producer's phase and latches, and the lanes of its port (R24, R355). -/
structure ProdFrame (s t : State) : Prop where
  params : t.params = s.params
  head : t.head = s.head
  vt : t.vt = s.vt
  npop : t.npop = s.npop
  cons : t.cons = s.cons
  consIO : t.consIO = s.consIO
  port : t.port = s.port
  draw : t.draw = s.draw
  sched : t.sched = s.sched
  resets : t.resets = s.resets
  rested : t.rested = s.rested

/-- The states agree on all that the consumer may not write: everything but `head`, `vt`, `npop`, the consumer's phase and
latches, and the lanes of its port (R23, R33, R355). -/
structure ConsFrame (s t : State) : Prop where
  params : t.params = s.params
  tail : t.tail = s.tail
  mem : t.mem = s.mem
  vh : t.vh = s.vh
  npush : t.npush = s.npush
  prod : t.prod = s.prod
  prodIO : t.prodIO = s.prodIO
  port : t.port = s.port
  draw : t.draw = s.draw
  sched : t.sched = s.sched
  resets : t.resets = s.resets
  rested : t.rested = s.rested

/-- A turn of the producer keeps to its frame: each of its steps is an update of the producer's own fields. -/
theorem ProdStep.frame {s t : State} (hport : s.port = .prod) (h : ProdStep s t) : ProdFrame s t := by
  cases s
  dsimp only at hport
  subst hport
  cases h with
  | test => unfold pushTest; split <;> constructor <;> rfl
  | _ => constructor <;> rfl

/-- A turn of the consumer keeps to its frame: each of its steps is an update of the consumer's own fields. -/
theorem ConsStep.frame {s t : State} (hport : s.port = .cons) (h : ConsStep s t) : ConsFrame s t := by
  cases s
  dsimp only at hport
  subst hport
  cases h with
  | test => unfold popTest; split <;> constructor <;> rfl
  | _ => constructor <;> rfl

@[simp] theorem pushTest_mem (s : State) : (pushTest s).mem = s.mem := by
  unfold pushTest; split <;> rfl

@[simp] theorem pushTest_vh (s : State) : (pushTest s).vh = s.vh := by
  unfold pushTest; split <;> rfl

@[simp] theorem pushTest_npush (s : State) : (pushTest s).npush = s.npush := by
  unfold pushTest; split <;> rfl

@[simp] theorem popTest_vt (s : State) : (popTest s).vt = s.vt := by
  unfold popTest; split <;> rfl

@[simp] theorem popTest_npop (s : State) : (popTest s).npop = s.npop := by
  unfold popTest; split <;> rfl

/-- Only P4 writes slot memory (R306). -/
theorem ProdStep.mem_eq {s t : State} (h : ProdStep s t) (hne : s.prod.phase ≠ .p4) : t.mem = s.mem := by
  cases h with
  | copyIn hphase => exact absurd hphase hne
  | test => exact pushTest_mem s
  | _ => rfl

/-- Only P1 writes the producer's view (R303). -/
theorem ProdStep.vh_eq {s t : State} (h : ProdStep s t) (hne : s.prod.phase ≠ .p1) : t.vh = s.vh := by
  cases h with
  | loadHead hphase => exact absurd hphase hne
  | test => exact pushTest_vh s
  | _ => rfl

/-- Only C2 writes the consumer's view (R312). -/
theorem ConsStep.vt_eq {s t : State} (h : ConsStep s t) (hne : s.cons.phase ≠ .c2) : t.vt = s.vt := by
  cases h with
  | loadTail hphase => exact absurd hphase hne
  | test => exact popTest_vt s
  | _ => rfl

theorem State.readWord_congr {s t : State} (hmem : t.mem = s.mem) (hresets : t.resets = s.resets) (a : Nat) :
    t.readWord a = s.readWord a := by
  rw [State.readWord, State.readWord, hmem, hresets]

/-- No step changes a parameter (R25, R26). -/
theorem step_params {s t : State} (h : step s = .next t) : t.params = s.params := by
  rcases step_cases h with ⟨-, rfl⟩ | ⟨-, rfl⟩ | ⟨p, draw, hturn, -⟩
  · rfl
  · rfl
  · cases p with
    | prod => exact ((prodStep_of_step hturn h).frame rfl).params
    | cons => exact ((consStep_of_step hturn h).frame rfl).params

theorem sameRing_respond (s : State) (st : Status) (l : Lanes) : SameRing s (s.respond st l) :=
  ⟨rfl, rfl, rfl, rfl, rfl, rfl, rfl, rfl, rfl, State.readWord_respond s st l⟩

/-! ## Views and counters grow -/

/-- The producer's view never goes back (R34): P1 loads no older count than the one seen last. -/
theorem ProdStep.vh_le {s t : State} (h : ProdStep s t) (hle : s.vh ≤ s.npop) : s.vh ≤ t.vh := by
  cases h with
  | loadHead => exact (s.loadOther_bounds hle).1
  | test => exact (pushTest_vh s).ge
  | _ => exact le_rfl

/-- The consumer's view never goes back (R34): C2 loads no older count than the one seen last. -/
theorem ConsStep.vt_le {s t : State} (h : ConsStep s t) (hle : s.vt ≤ s.npush) : s.vt ≤ t.vt := by
  cases h with
  | loadTail => exact (s.loadOther_bounds hle).1
  | test => exact (popTest_vt s).ge
  | _ => exact le_rfl

/-- A turn of the producer counts at most one push, that of P5 (R35). -/
theorem ProdStep.npush_bounds {s t : State} (h : ProdStep s t) : s.npush ≤ t.npush ∧ t.npush ≤ s.npush + 1 := by
  cases h with
  | test => simp
  | publish => simp
  | _ => exact ⟨le_rfl, Nat.le_succ _⟩

/-- A turn of the consumer counts at most one pop, that of C5 (R35). -/
theorem ConsStep.npop_bounds {s t : State} (h : ConsStep s t) : s.npop ≤ t.npop ∧ t.npop ≤ s.npop + 1 := by
  cases h with
  | test => simp
  | release => simp
  | _ => exact ⟨le_rfl, Nat.le_succ _⟩

/-! ## The obligations -/

/-- Settles O5: a busy port goes on, an idle port without a request does nothing, and the next turn after the schedule is a
busy port's, or none. -/
theorem stepGoesOnOrWaits : Obligations.StepGoesOnOrWaits := by
  unfold Obligations.StepGoesOnOrWaits
  refine ⟨?producer, ?consumer, ?noRequest, fun s turn rest => State.nextTurn_of_sched,
    fun s p => State.nextTurn_of_inFlight, ?waits⟩
  case producer =>
    intro s draw hturn hbusy
    rw [step_of_move hturn]
    exact stepPort_of_busy (mt (State.portIdle_prod rfl).1 hbusy)
  case consumer =>
    intro s draw hturn hbusy
    rw [step_of_move hturn]
    exact stepPort_of_busy (mt (State.portIdle_cons rfl).1 hbusy)
  case noRequest =>
    intro s p draw hturn hidle hpending
    rw [step_of_move hturn, stepPort_of_no_request hidle hpending]
  case waits =>
    intro s hsched hprod hcons
    exact step_of_no_turn (State.nextTurn_none.2 ⟨hsched, hprod, hcons⟩)

/-- Settles O28: the lanes are one function of the parameters and the request lanes. -/
theorem codecDependsOnTheRequestAlone : Obligations.CodecDependsOnTheRequestAlone := by
  unfold Obligations.CodecDependsOnTheRequestAlone
  intro i s s' hcodec hidle hidle' hparams hlanes
  obtain ⟨f, hf⟩ := exec_codec hcodec
  refine ⟨f s.params s.request.lanes, ?_, ?_⟩
  · rw [hf, State.codec_idle hidle]
  · rw [hf, State.codec_idle hidle', hparams, hlanes]

/-- Settles O29: a codec command ends with `State.respond`, or is refused on a busy port. -/
theorem codecTouchesOnlyTheResponse : Obligations.CodecTouchesOnlyTheResponse := by
  unfold Obligations.CodecTouchesOnlyTheResponse
  intro i s hcodec
  obtain ⟨f, hf⟩ := exec_codec hcodec
  rw [hf]
  constructor
  case left =>
    intro hidle
    exact ⟨_, State.codec_idle hidle f, _, by rw [State.io_respond]⟩
  case right =>
    intro t hnext
    rcases s.codec_cases f with ⟨-, hanswer⟩ | ⟨-, hrefused⟩
    · obtain rfl := Host.Outcome.next.inj (hanswer.symm.trans hnext)
      exact ⟨sameRing_respond s _ _, by rw [State.io_respond], by rw [State.io_respond], State.setIO_consIO_of_prod s _,
        State.setIO_prodIO_of_cons s _, rfl, rfl, rfl, rfl, rfl⟩
    · rw [hrefused] at hnext
      cases hnext

/-- Settles O43: the facts about positions, for any capacity. -/
theorem positionArithmetic : Obligations.PositionArithmetic := by
  unfold Obligations.PositionArithmetic
  intro c h t hh ht
  refine ⟨?slot, slotOf_eq_mod hh, inc_eq_mod hh, ?successor, distance_lt ht, cast_distance hh,
    distance_eq_zero_iff hh ht, distance_eq_capacity_comm hh ht⟩
  case slot =>
    rw [slotOf_eq_mod hh]
    exact Nat.mod_lt h (by omega)
  case successor =>
    rw [inc_eq_mod hh]
    exact Nat.mod_lt (h + 1) (by omega)

/-- Settles O49: the counters differ by 0 to `C`, so the distance of the cursors is their difference. -/
theorem occupancyIsAtMostCapacity : Obligations.OccupancyIsAtMostCapacity := by
  unfold Obligations.OccupancyIsAtMostCapacity
  intro s hinv
  obtain ⟨hle, hroom⟩ := hinv.counters
  refine ⟨hinv.distance_cursors, ?length, ?bound, ?empty⟩
  case length => rw [hinv.distance_cursors, s.length_queue]
  case bound => rw [s.length_queue]; omega
  case empty => rw [hinv.cursors_eq_iff, ← List.length_eq_zero_iff, s.length_queue]; omega

/-- Settles O53: an agent's turn raises its own view and counter at most, and leaves the other agent's alone. -/
theorem viewsAndCountersOnlyGrow : Obligations.ViewsAndCountersOnlyGrow := by
  unfold Obligations.ViewsAndCountersOnlyGrow
  intro s t hinv hstep hreset
  rcases step_cases hstep with ⟨-, rfl⟩ | ⟨hturn, -⟩ | ⟨p, draw, hturn, -⟩
  · exact ⟨le_rfl, le_rfl, le_rfl, le_rfl, Nat.le_succ _, Nat.le_succ _⟩
  · exact absurd hturn hreset
  · cases p with
    | prod =>
      have hprod := prodStep_of_step hturn hstep
      have hframe := hprod.frame rfl
      obtain ⟨hlo, hhi⟩ := hprod.npush_bounds
      exact ⟨hprod.vh_le hinv.vh_le, hframe.vt.ge, hlo, hframe.npop.ge, hhi, hframe.npop.le.trans (Nat.le_succ _)⟩
    | cons =>
      have hcons := consStep_of_step hturn hstep
      have hframe := hcons.frame rfl
      obtain ⟨hlo, hhi⟩ := hcons.npop_bounds
      exact ⟨hframe.vh.ge, hcons.vt_le hinv.vt_le, hframe.npush.ge, hlo, hframe.npush.le.trans (Nat.le_succ _), hhi⟩

/-- Settles O54: the frames of the two agents' turns, with slot memory left alone except at P4. -/
theorem agentsWriteOnlyTheirOwn : Obligations.AgentsWriteOnlyTheirOwn := by
  unfold Obligations.AgentsWriteOnlyTheirOwn
  intro s t hstep
  refine ⟨step_params hstep, ?producer, ?consumer⟩
  case producer =>
    intro draw hturn
    have hprod := prodStep_of_step hturn hstep
    have hframe := hprod.frame rfl
    exact ⟨hframe.head, hframe.npop, hframe.vt, hframe.cons, hframe.consIO, hframe.sched,
      fun hphase => State.readWord_congr (hprod.mem_eq hphase) hframe.resets, hprod.vh_eq⟩
  case consumer =>
    intro draw hturn
    have hcons := consStep_of_step hturn hstep
    have hframe := hcons.frame rfl
    exact ⟨hframe.tail, hframe.npush, hframe.vh, hframe.prod, hframe.prodIO, hframe.sched,
      State.readWord_congr hframe.mem hframe.resets, hcons.vt_eq⟩

end Sys2Proof.Machine

/-! PROOFS. Memory and the two agents: the ring invariant and the queue (R65, R71, R317, R318), endless runs with strong
views (R62, R66), stale views (R67) and the wire view (R50 to R52). -/

namespace Sys2Proof.Machine

/-! ## The words of a slot -/

theorem State.length_slotWritten (s : State) (k : Nat) : (s.slotWritten k).length = s.params.slotWords := by
  rw [State.slotWritten, List.length_map, List.length_range]

theorem State.length_of_slotWritten {s : State} {k : Nat} {d : List Word} (h : s.slotWritten k = d.map some) :
    d.length = s.params.slotWords := by
  rw [← s.length_slotWritten k, h, List.length_map]

theorem State.isSome_of_slotWritten {s : State} {k : Nat} {d : List Word} (h : s.slotWritten k = d.map some) :
    ∀ o ∈ s.slotWritten k, o.isSome = true := by
  rw [h, List.forall_mem_map]
  exact fun _ _ => rfl

/-- A slot whose words are all recorded is read as they are recorded. -/
theorem State.slotWritten_eq_slotAt {s : State} {k : Nat} (h : ∀ o ∈ s.slotWritten k, o.isSome = true) :
    s.slotWritten k = (s.slotAt k).map some := by
  rw [State.slotWritten, List.forall_mem_map] at h
  rw [State.slotWritten, State.slotAt, State.readWords, List.map_map]
  refine List.map_congr_left fun j hj => ?_
  obtain ⟨w, hw⟩ := Option.isSome_iff_exists.1 (h j hj)
  rw [Function.comp_apply, State.readWord, hw, Option.getD_some]

theorem State.slotAt_of_slotWritten {s : State} {k : Nat} {d : List Word} (h : s.slotWritten k = d.map some) :
    s.slotAt k = d := by
  rw [State.slotWritten_eq_slotAt (State.isSome_of_slotWritten h)] at h
  exact List.map_injective_iff.2 (Option.some_injective _) h

/-- The words that C4 latches are those of the slot of count `npop` (R314). -/
theorem State.readWords_position {s : State} (hcap : 1 ≤ s.params.capacity) (k : Nat) :
    s.readWords (s.slotBase (s.position k)) s.params.slotWords = s.slotAt k := by
  rw [State.slotBase_position hcap, State.slotAt]

/-! ## What P4 writes -/

/-- A word of slot memory after P4 into the slot of count `k`. -/
theorem read?_pushCopy {s : State} {k : Nat} (hcap : 1 ≤ s.params.capacity) (ht : s.prod.t = s.position k)
    (hlen : s.prod.d.length = s.params.slotWords) (a : Nat) :
    Memory.read? (pushCopy s).mem a =
      if k % s.params.capacity * s.params.slotWords ≤ a ∧
          a < k % s.params.capacity * s.params.slotWords + s.params.slotWords then
        s.prod.d[a - k % s.params.capacity * s.params.slotWords]?
      else Memory.read? s.mem a := by
  rw [pushCopy_mem, Memory.read?_writeWords, slotLanes_eq hlen, hlen, ht, State.slotBase_position hcap]

/-- P4 writes the words of the push into its slot (R306). -/
theorem slotWritten_pushCopy {s : State} {k : Nat} (hcap : 1 ≤ s.params.capacity) (ht : s.prod.t = s.position k)
    (hlen : s.prod.d.length = s.params.slotWords) : (pushCopy s).slotWritten k = s.prod.d.map some := by
  refine List.ext_getElem? fun j => ?_
  by_cases hj : j < s.params.slotWords
  · have hread := read?_pushCopy hcap ht hlen (k % s.params.capacity * s.params.slotWords + j)
    rw [if_pos ⟨Nat.le_add_right _ _, Nat.add_lt_add_left hj _⟩, Nat.add_sub_cancel_left] at hread
    have hd : j < s.prod.d.length := hlen ▸ hj
    simp only [State.slotWritten, pushCopy_params, List.getElem?_map, List.getElem?_range hj, Option.map_some, hread,
      List.getElem?_eq_getElem hd]
  · rw [List.getElem?_eq_none (by rw [State.length_slotWritten, pushCopy_params]; omega),
      List.getElem?_eq_none (by rw [List.length_map]; omega)]

/-- P4 leaves every word of another slot alone (R306). -/
theorem read?_pushCopy_of_ne {s : State} {k i j : Nat} (hcap : 1 ≤ s.params.capacity) (ht : s.prod.t = s.position k)
    (hlen : s.prod.d.length = s.params.slotWords) (hne : i % s.params.capacity ≠ k % s.params.capacity)
    (hj : j < s.params.slotWords) :
    Memory.read? (pushCopy s).mem (i % s.params.capacity * s.params.slotWords + j) =
      Memory.read? s.mem (i % s.params.capacity * s.params.slotWords + j) := by
  rw [read?_pushCopy hcap ht hlen, if_neg]
  rintro ⟨hlo, hhi⟩
  obtain ⟨x, hx⟩ := Nat.exists_eq_add_of_le hlo
  exact hne (slot_disjoint hj (by omega) hx)

theorem slotWritten_pushCopy_of_ne {s : State} {k i : Nat} (hcap : 1 ≤ s.params.capacity) (ht : s.prod.t = s.position k)
    (hlen : s.prod.d.length = s.params.slotWords) (hne : i % s.params.capacity ≠ k % s.params.capacity) :
    (pushCopy s).slotWritten i = s.slotWritten i :=
  List.map_congr_left fun _ hj => read?_pushCopy_of_ne hcap ht hlen hne (List.mem_range.1 hj)

theorem slotAt_pushCopy_of_ne {s : State} {k i : Nat} (hcap : 1 ≤ s.params.capacity) (ht : s.prod.t = s.position k)
    (hlen : s.prod.d.length = s.params.slotWords) (hne : i % s.params.capacity ≠ k % s.params.capacity) :
    (pushCopy s).slotAt i = s.slotAt i := by
  refine List.map_congr_left fun j hj => ?_
  rw [State.readWord, State.readWord, pushCopy_params, pushCopy_resets,
    read?_pushCopy_of_ne hcap ht hlen hne (List.mem_range.1 hj)]

/-! ## What the invariant says of the latches, phase by phase -/

section Latches

variable {s : State} (hinv : s.Inv)
include hinv

theorem State.Inv.at_p1 (h : s.prod.phase = .p1) : s.prod.d.length = s.params.slotWords := by
  have := hinv.prod; rwa [State.prodInv, h] at this

theorem State.Inv.at_p2 (h : s.prod.phase = .p2) :
    s.prod.d.length = s.params.slotWords ∧ s.prod.h = s.position s.vh := by
  have := hinv.prod; rwa [State.prodInv, h] at this

theorem State.Inv.at_p3 (h : s.prod.phase = .p3) :
    s.prod.d.length = s.params.slotWords ∧ s.prod.h = s.position s.vh ∧ s.prod.t = s.position s.npush := by
  have := hinv.prod; rwa [State.prodInv, h] at this

theorem State.Inv.at_p4 (h : s.prod.phase = .p4) :
    s.prod.d.length = s.params.slotWords ∧ s.prod.t = s.position s.npush ∧ s.npush < s.vh + s.params.capacity := by
  have := hinv.prod; rwa [State.prodInv, h] at this

theorem State.Inv.at_p5 (h : s.prod.phase = .p5) :
    s.prod.d.length = s.params.slotWords ∧ s.prod.t = s.position s.npush ∧ s.npush < s.vh + s.params.capacity ∧
      s.slotWritten s.npush = s.prod.d.map some := by
  have := hinv.prod; rwa [State.prodInv, h] at this

theorem State.Inv.at_c2 (h : s.cons.phase = .c2) : s.cons.h = s.position s.npop := by
  have := hinv.cons; rwa [State.consInv, h] at this

theorem State.Inv.at_c3 (h : s.cons.phase = .c3) : s.cons.h = s.position s.npop ∧ s.cons.t = s.position s.vt := by
  have := hinv.cons; rwa [State.consInv, h] at this

theorem State.Inv.at_c4 (h : s.cons.phase = .c4) : s.cons.h = s.position s.npop ∧ s.npop < s.vt := by
  have := hinv.cons; rwa [State.consInv, h] at this

theorem State.Inv.at_c5 (h : s.cons.phase = .c5) :
    s.cons.h = s.position s.npop ∧ s.npop < s.vt ∧ s.slotWritten s.npop = s.cons.d.map some := by
  have := hinv.cons; rwa [State.consInv, h] at this

/-- While the producer has seen room, the slot it writes is no slot of a queued element (R65). -/
theorem State.Inv.slot_ne_of_room {k : Nat} (hroom : s.npush < s.vh + s.params.capacity) (hk : s.npop ≤ k)
    (hlt : k < s.npush) : k % s.params.capacity ≠ s.npush % s.params.capacity := by
  have hvh := hinv.vh_le
  exact slot_ne hlt (by omega)

/-! ## Updates that keep the invariant -/

/-- The invariant does not look at the lanes of the ports. -/
theorem State.Inv.setIO (io : PortIO) : (s.setIO io).Inv :=
  ⟨hinv.params, hinv.tail, hinv.head, hinv.vh_le, hinv.pop_le_vt, hinv.vt_le, hinv.room, hinv.mem_wf, hinv.mem_inside,
    hinv.written, hinv.prod, hinv.cons⟩

/-- The invariant does not look at whose turn it is. -/
theorem State.Inv.takeTurn (p : Port) (draw : Nat) : (s.takeTurn p draw).Inv :=
  ⟨hinv.params, hinv.tail, hinv.head, hinv.vh_le, hinv.pop_le_vt, hinv.vt_le, hinv.room, hinv.mem_wf, hinv.mem_inside,
    hinv.written, hinv.prod, hinv.cons⟩

/-- The producer moves to a phase whose latches are as the invariant says. -/
theorem State.Inv.setProd (a : ProdAgent) (h : { s with prod := a }.prodInv) : { s with prod := a }.Inv :=
  ⟨hinv.params, hinv.tail, hinv.head, hinv.vh_le, hinv.pop_le_vt, hinv.vt_le, hinv.room, hinv.mem_wf, hinv.mem_inside,
    hinv.written, h, hinv.cons⟩

/-- The consumer moves to a phase whose latches are as the invariant says. -/
theorem State.Inv.setCons (a : ConsAgent) (h : { s with cons := a }.consInv) : { s with cons := a }.Inv :=
  ⟨hinv.params, hinv.tail, hinv.head, hinv.vh_le, hinv.pop_le_vt, hinv.vt_le, hinv.room, hinv.mem_wf, hinv.mem_inside,
    hinv.written, hinv.prod, h⟩

/-! ## The micro-steps keep the invariant -/

/-- P0 (R302). -/
theorem State.Inv.pushLatch (hlen : s.request.lanes.d.length = s.params.slotWords) : (pushLatch s).Inv :=
  (hinv.setIO _).setProd _ hlen

/-- P1 (R303): the view grows, and stays within what the consumer has stored. -/
theorem State.Inv.pushLoadHead (hphase : s.prod.phase = .p1) : (pushLoadHead s).Inv := by
  obtain ⟨hlo, hhi⟩ := s.loadOther_bounds hinv.vh_le
  exact ⟨hinv.params, hinv.tail, hinv.head, hhi, hinv.pop_le_vt, hinv.vt_le,
    hinv.room.trans (Nat.add_le_add_right hlo _), hinv.mem_wf, hinv.mem_inside, hinv.written, ⟨hinv.at_p1 hphase, rfl⟩,
    hinv.cons⟩

/-- P2 (R304). -/
theorem State.Inv.pushLoadTail (hphase : s.prod.phase = .p2) : (pushLoadTail s).Inv := by
  obtain ⟨hlen, hh⟩ := hinv.at_p2 hphase
  exact hinv.setProd _ ⟨hlen, hh, hinv.tail⟩

/-- At P3 the ring is tested full just when the producer's view leaves no room (R305). -/
theorem State.Inv.isFull_iff (hphase : s.prod.phase = .p3) :
    isFull s.params.capacity s.prod.h s.prod.t = true ↔ s.npush = s.vh + s.params.capacity := by
  obtain ⟨-, hh, ht⟩ := hinv.at_p3 hphase
  obtain ⟨hle, -⟩ := hinv.counters
  have hcap := Params.capacity_pos hinv.params
  have hvh := hinv.vh_le
  have hroom := hinv.room
  have hdistance : distance s.params.capacity s.prod.h s.prod.t = s.npush - s.vh := by
    rw [hh, ht]
    exact distance_mod (by omega) (by omega)
  rw [isFull, beq_iff_eq, hdistance]
  omega

/-- P3 (R305). -/
theorem State.Inv.pushTest (hphase : s.prod.phase = .p3) : (pushTest s).Inv := by
  obtain ⟨hlen, -, ht⟩ := hinv.at_p3 hphase
  cases hfull : isFull s.params.capacity s.prod.h s.prod.t with
  | true =>
    rw [pushTest_full hfull]
    exact (hinv.setIO _).setProd _ trivial
  | false =>
    have hne := mt (hinv.isFull_iff hphase).2 (by rw [hfull]; exact Bool.false_ne_true)
    rw [pushTest_room hfull]
    exact hinv.setProd _ ⟨hlen, ht, lt_of_le_of_ne hinv.room hne⟩

/-- P4 (R306): the words of the push stand in the slot of count `npush`, which is the slot of no queued element. -/
theorem State.Inv.pushCopy (hphase : s.prod.phase = .p4) : (pushCopy s).Inv := by
  obtain ⟨hlen, ht, hroom⟩ := hinv.at_p4 hphase
  have hcap := Params.capacity_pos hinv.params
  have hkept : ∀ k, s.npop ≤ k → k < s.npush → (Machine.pushCopy s).slotWritten k = s.slotWritten k :=
    fun k hk hlt => slotWritten_pushCopy_of_ne hcap ht hlen (hinv.slot_ne_of_room hroom hk hlt)
  refine ⟨hinv.params, hinv.tail, hinv.head, hinv.vh_le, hinv.pop_le_vt, hinv.vt_le, hinv.room,
    Memory.wf_writeWords _ hinv.mem_wf _, ?inside, ?written, ⟨hlen, ht, hroom, slotWritten_pushCopy hcap ht hlen⟩, ?cons⟩
  case inside =>
    intro e he
    rcases Memory.mem_writeWords _ he with hold | ⟨-, hhi⟩
    · exact hinv.mem_inside e hold
    · rw [length_slotLanes, ht, State.slotBase_position hcap] at hhi
      exact hhi.trans_le (slot_inside (Nat.mod_lt _ hcap))
  case written =>
    intro k hlt hk
    rw [hkept k hk hlt]
    exact hinv.written k hlt hk
  case cons =>
    have hcons := hinv.cons
    unfold State.consInv at hcons ⊢
    rw [pushCopy_cons]
    cases hc : s.cons.phase with
    | c5 =>
      obtain ⟨hh, hvt, hslot⟩ := hinv.at_c5 hc
      exact ⟨hh, hvt, (hkept s.npop le_rfl (hvt.trans_le hinv.vt_le)).trans hslot⟩
    | _ => rw [hc] at hcons; exact hcons

/-- P5 (R307): the slot of count `npush` is written, so the next count may be published. -/
theorem State.Inv.pushPublish (hphase : s.prod.phase = .p5) : (pushPublish s).Inv := by
  obtain ⟨-, ht, hroom, hslot⟩ := hinv.at_p5 hphase
  have hcap := Params.capacity_pos hinv.params
  refine ⟨hinv.params, ?tail, hinv.head, hinv.vh_le, hinv.pop_le_vt, Nat.le_succ_of_le hinv.vt_le, hroom, hinv.mem_wf,
    hinv.mem_inside, ?written, trivial, hinv.cons⟩
  case tail =>
    rw [pushPublish_tail, ht]
    exact inc_mod hcap s.npush
  case written =>
    intro k hlt hk
    rcases Nat.lt_succ_iff_lt_or_eq.1 hlt with hold | rfl
    · exact hinv.written k hold hk
    · exact State.isSome_of_slotWritten hslot

/-- C0 (R310). -/
theorem State.Inv.popAccept : (popAccept s).Inv :=
  (hinv.setIO _).setCons _ trivial

/-- C1 (R311). -/
theorem State.Inv.popLoadHead : (popLoadHead s).Inv :=
  hinv.setCons _ hinv.head

/-- C2 (R312): the view grows, and stays within what the producer has stored. -/
theorem State.Inv.popLoadTail (hphase : s.cons.phase = .c2) : (popLoadTail s).Inv := by
  obtain ⟨hlo, hhi⟩ := s.loadOther_bounds hinv.vt_le
  exact ⟨hinv.params, hinv.tail, hinv.head, hinv.vh_le, hinv.pop_le_vt.trans hlo, hhi, hinv.room, hinv.mem_wf,
    hinv.mem_inside, hinv.written, hinv.prod, ⟨hinv.at_c2 hphase, rfl⟩⟩

/-- At C3 the ring is tested empty just when the consumer's view holds no element (R313). -/
theorem State.Inv.isEmpty_iff (hphase : s.cons.phase = .c3) :
    isEmpty s.cons.h s.cons.t = true ↔ s.npop = s.vt := by
  obtain ⟨hh, ht⟩ := hinv.at_c3 hphase
  obtain ⟨-, hroom⟩ := hinv.counters
  have hcap := Params.capacity_pos hinv.params
  have hvt := hinv.vt_le
  rw [isEmpty, beq_iff_eq, hh, ht]
  exact mod_inj hinv.pop_le_vt (by omega)

/-- C3 (R313). -/
theorem State.Inv.popTest (hphase : s.cons.phase = .c3) : (popTest s).Inv := by
  obtain ⟨hh, -⟩ := hinv.at_c3 hphase
  cases hempty : isEmpty s.cons.h s.cons.t with
  | true =>
    rw [popTest_empty hempty]
    exact (hinv.setIO _).setCons _ trivial
  | false =>
    have hne := mt (hinv.isEmpty_iff hphase).2 (by rw [hempty]; exact Bool.false_ne_true)
    rw [popTest_element hempty]
    exact hinv.setCons _ ⟨hh, lt_of_le_of_ne hinv.pop_le_vt hne⟩

/-- C4 (R314): the slot of count `npop` is queued, so wholly written, and is read as it was written. -/
theorem State.Inv.popCopy (hphase : s.cons.phase = .c4) : (popCopy s).Inv := by
  obtain ⟨hh, hvt⟩ := hinv.at_c4 hphase
  have hcap := Params.capacity_pos hinv.params
  refine hinv.setCons _ ⟨hh, hvt, ?_⟩
  rw [hh, State.readWords_position hcap]
  exact State.slotWritten_eq_slotAt (hinv.written s.npop (hvt.trans_le hinv.vt_le) le_rfl)

/-- C5 (R315): the consumer has seen the element it releases. -/
theorem State.Inv.popRelease (hphase : s.cons.phase = .c5) : (popRelease s).Inv := by
  obtain ⟨hh, hvt, -⟩ := hinv.at_c5 hphase
  have hcap := Params.capacity_pos hinv.params
  refine ⟨hinv.params, hinv.tail, ?head, Nat.le_succ_of_le hinv.vh_le, hvt, hinv.vt_le, hinv.room, hinv.mem_wf,
    hinv.mem_inside, fun k hlt hk => hinv.written k hlt (Nat.le_of_succ_le hk), hinv.prod, trivial⟩
  rw [popRelease_head, hh]
  exact inc_mod hcap s.npop

/-! ## Every step keeps the invariant -/

theorem ProdStep.inv {t : State} (h : ProdStep s t) : t.Inv := by
  cases h with
  | lanes io => exact hinv.setIO io
  | accept r rs _ _ _ hwf =>
    exact State.Inv.pushLatch (hinv.setIO _) (by rw [State.request_taken]; exact Request.wf_iff.1 hwf)
  | loadHead hphase => exact hinv.pushLoadHead hphase
  | loadTail hphase => exact hinv.pushLoadTail hphase
  | test hphase => exact hinv.pushTest hphase
  | copyIn hphase => exact hinv.pushCopy hphase
  | publish hphase => exact hinv.pushPublish hphase

theorem ConsStep.inv {t : State} (h : ConsStep s t) : t.Inv := by
  cases h with
  | lanes io => exact hinv.setIO io
  | accept r rs => exact State.Inv.popAccept (hinv.setIO _)
  | loadHead => exact hinv.popLoadHead
  | loadTail hphase => exact hinv.popLoadTail hphase
  | test hphase => exact hinv.popTest hphase
  | copyOut hphase => exact hinv.popCopy hphase
  | release hphase => exact hinv.popRelease hphase

/-- Reset empties the ring, whatever state it is applied to (R374, R377). -/
theorem State.Inv.applyReset (rest : List Turn) : (s.applyReset rest).Inv :=
  ⟨hinv.params, (Nat.zero_mod _).symm, (Nat.zero_mod _).symm, le_rfl, le_rfl, le_rfl, Nat.zero_le _, List.Pairwise.nil,
    fun _ he => absurd he List.not_mem_nil, fun _ hlt => absurd hlt (Nat.not_lt_zero _), trivial, trivial⟩

/-- R317: the invariant is kept by every step of the machine. -/
theorem State.Inv.step {t : State} (h : Machine.step s = .next t) : t.Inv := by
  rcases step_cases h with ⟨-, rfl⟩ | ⟨-, rfl⟩ | ⟨p, draw, hturn, -⟩
  · exact hinv
  · exact hinv.applyReset _
  · cases p with
    | prod => exact ProdStep.inv (hinv.takeTurn _ _) (prodStep_of_step hturn h)
    | cons => exact ConsStep.inv (hinv.takeTurn _ _) (consStep_of_step hturn h)

end Latches

/-! ## The queue, turn by turn -/

/-- The queue is made of the two counters and the slots between them. -/
theorem State.queue_congr {s t : State} (hpush : t.npush = s.npush) (hpop : t.npop = s.npop)
    (hslot : ∀ k, s.npop ≤ k → k < s.npush → t.slotAt k = s.slotAt k) : t.queue = s.queue := by
  rw [State.queue, State.queue, hpush, hpop]
  refine List.map_congr_left fun i hi => hslot _ (Nat.le_add_right _ _) ?_
  have := List.mem_range.1 hi
  omega

theorem State.slotAt_congr {s t : State} (hparams : t.params = s.params) (hmem : t.mem = s.mem)
    (hresets : t.resets = s.resets) (k : Nat) : t.slotAt k = s.slotAt k := by
  rw [State.slotAt, State.slotAt, State.readWords, State.readWords, hparams]
  exact List.map_congr_left fun j _ => State.readWord_congr hmem hresets _

/-- Only P5 counts a push (R307). -/
theorem ProdStep.npush_eq {s t : State} (h : ProdStep s t) (hne : s.prod.phase ≠ .p5) : t.npush = s.npush := by
  cases h with
  | publish hphase => exact absurd hphase hne
  | test => exact pushTest_npush s
  | _ => rfl

/-- Only C5 counts a pop (R315). -/
theorem ConsStep.npop_eq {s t : State} (h : ConsStep s t) (hne : s.cons.phase ≠ .c5) : t.npop = s.npop := by
  cases h with
  | release hphase => exact absurd hphase hne
  | test => exact popTest_npop s
  | _ => rfl

/-- The step of the producer at P1 is the load of `head`. -/
theorem ProdStep.eq_pushLoadHead {s t : State} (h : ProdStep s t) (hphase : s.prod.phase = .p1) : t = pushLoadHead s := by
  cases h with
  | loadHead => rfl
  | _ => simp_all

/-- The step of the producer at P4 is the copy in. -/
theorem ProdStep.eq_pushCopy {s t : State} (h : ProdStep s t) (hphase : s.prod.phase = .p4) : t = pushCopy s := by
  cases h with
  | copyIn => rfl
  | _ => simp_all

/-- The step of the producer at P5 is the publication. -/
theorem ProdStep.eq_pushPublish {s t : State} (h : ProdStep s t) (hphase : s.prod.phase = .p5) : t = pushPublish s := by
  cases h with
  | publish => rfl
  | _ => simp_all

/-- The step of the consumer at C2 is the load of `tail`. -/
theorem ConsStep.eq_popLoadTail {s t : State} (h : ConsStep s t) (hphase : s.cons.phase = .c2) : t = popLoadTail s := by
  cases h with
  | loadTail => rfl
  | _ => simp_all

/-- The step of the consumer at C5 is the release. -/
theorem ConsStep.eq_popRelease {s t : State} (h : ConsStep s t) (hphase : s.cons.phase = .c5) : t = popRelease s := by
  cases h with
  | release => rfl
  | _ => simp_all

/-- Before P5 a turn of the producer leaves the queue alone: P4 writes the slot of no queued element (R65). -/
theorem ProdStep.queue_eq {s t : State} (h : ProdStep s t) (hinv : s.Inv) (hport : s.port = .prod)
    (hne : s.prod.phase ≠ .p5) : t.queue = s.queue := by
  have hframe := h.frame hport
  refine State.queue_congr (h.npush_eq hne) hframe.npop fun k hk hlt => ?_
  by_cases hphase : s.prod.phase = .p4
  · obtain ⟨hlen, ht, hroom⟩ := hinv.at_p4 hphase
    rw [h.eq_pushCopy hphase]
    exact slotAt_pushCopy_of_ne (Params.capacity_pos hinv.params) ht hlen (hinv.slot_ne_of_room hroom hk hlt)
  · exact State.slotAt_congr hframe.params (h.mem_eq hphase) hframe.resets k

/-- Before C5 a turn of the consumer leaves the queue alone. -/
theorem ConsStep.queue_eq {s t : State} (h : ConsStep s t) (hport : s.port = .cons) (hne : s.cons.phase ≠ .c5) :
    t.queue = s.queue := by
  have hframe := h.frame hport
  exact State.queue_congr hframe.npush (h.npop_eq hne) fun k _ _ =>
    State.slotAt_congr hframe.params hframe.mem hframe.resets k

/-- P5 appends the words of the push to the queue (R307, R318). -/
theorem State.Inv.queue_pushPublish {s : State} (hinv : s.Inv) (hphase : s.prod.phase = .p5) :
    (Machine.pushPublish s).queue = s.queue ++ [s.prod.d] := by
  obtain ⟨-, -, -, hslot⟩ := hinv.at_p5 hphase
  obtain ⟨hle, -⟩ := hinv.counters
  have hlast : s.slotAt (s.npop + (s.npush - s.npop)) = s.prod.d := by
    rw [Nat.add_sub_cancel' hle, State.slotAt_of_slotWritten hslot]
  have hcount : s.npush + 1 - s.npop = (s.npush - s.npop) + 1 := by omega
  rw [State.queue, pushPublish_npush, pushPublish_npop, hcount, List.range_succ, List.map_append, List.map_singleton]
  exact congrArg (s.queue ++ [·]) hlast

/-- C5 removes the oldest element, which is the words copied out (R315, R318). -/
theorem State.Inv.queue_popRelease {s : State} (hinv : s.Inv) (hphase : s.cons.phase = .c5) :
    s.queue = s.cons.d :: (Machine.popRelease s).queue := by
  obtain ⟨-, hvt, hslot⟩ := hinv.at_c5 hphase
  have hle := hinv.vt_le
  have hcount : s.npush - s.npop = (s.npush - (s.npop + 1)) + 1 := by omega
  rw [State.queue, State.queue, hcount, List.range_succ_eq_map, List.map_cons, List.map_map, Nat.add_zero,
    State.slotAt_of_slotWritten hslot]
  refine congrArg (s.cons.d :: ·) (List.map_congr_left fun i _ => ?_)
  show s.slotAt (s.npop + (i + 1)) = s.slotAt (s.npop + 1 + i)
  rw [Nat.add_right_comm, Nat.add_assoc]

/-- C5 answers `OK` with the words copied out (R315). -/
theorem State.Inv.rsp_popRelease {s : State} (hinv : s.Inv) (hport : s.port = .cons) (hphase : s.cons.phase = .c5) :
    (Machine.popRelease s).consIO.rsp = some { status := .ok, lanes := { s.zeroLanes with d := s.cons.d } } := by
  obtain ⟨-, -, hslot⟩ := hinv.at_c5 hphase
  have hlanes : slotLanes s.params.slotWords s.cons.d = s.cons.d := slotLanes_eq (State.length_of_slotWritten hslot)
  show (s.respond .ok { s.zeroLanes with d := slotLanes s.params.slotWords s.cons.d }).consIO.rsp = _
  rw [hlanes, State.respond, State.setIO_consIO_of_cons s _ hport]

/-! ## What one step publishes and releases -/

theorem publishedBy_of_p5 {s : State} {draw : Nat} (hturn : s.nextTurn = some (.move .prod draw))
    (hphase : s.prod.phase = .p5) : publishedBy s = [s.prod.d] := by
  rw [publishedBy, hturn, hphase]

theorem publishedBy_eq_nil {s : State} (h : ∀ draw, s.nextTurn = some (.move .prod draw) → s.prod.phase ≠ .p5) :
    publishedBy s = [] := by
  unfold publishedBy
  split
  case h_1 draw hturn hphase => exact absurd hphase (h draw hturn)
  case h_2 => rfl

theorem releasedBy_of_c5 {s t : State} {draw : Nat} {r : Response} (hturn : s.nextTurn = some (.move .cons draw))
    (hphase : s.cons.phase = .c5) (hrsp : t.consIO.rsp = some r) : releasedBy s t = [r.lanes.d] := by
  rw [releasedBy, hturn, hphase, hrsp]

theorem releasedBy_eq_nil {s t : State} (h : ∀ draw, s.nextTurn = some (.move .cons draw) → s.cons.phase ≠ .c5) :
    releasedBy s t = [] := by
  unfold releasedBy
  split
  case h_1 draw _ hturn hphase _ => exact absurd hphase (h draw hturn)
  case h_2 => rfl

/-- A turn of the producer appends to the queue what it publishes. -/
theorem queue_of_prod_turn {s t : State} {draw : Nat} (hinv : s.Inv) (hturn : s.nextTurn = some (.move .prod draw))
    (h : step s = .next t) : t.queue = s.queue ++ publishedBy s := by
  have hprod := prodStep_of_step hturn h
  have hinv' := hinv.takeTurn .prod draw
  by_cases hphase : s.prod.phase = .p5
  · rw [hprod.eq_pushPublish hphase, publishedBy_of_p5 hturn hphase]
    exact hinv'.queue_pushPublish hphase
  · rw [publishedBy_eq_nil fun _ _ => hphase, List.append_nil]
    exact hprod.queue_eq hinv' rfl hphase

/-- A turn of the consumer removes from the queue what it releases. -/
theorem queue_of_cons_turn {s t : State} {draw : Nat} (hinv : s.Inv) (hturn : s.nextTurn = some (.move .cons draw))
    (h : step s = .next t) : s.queue = releasedBy s t ++ t.queue := by
  have hcons := consStep_of_step hturn h
  have hinv' := hinv.takeTurn .cons draw
  by_cases hphase : s.cons.phase = .c5
  · obtain rfl := hcons.eq_popRelease hphase
    rw [releasedBy_of_c5 hturn hphase (hinv'.rsp_popRelease rfl hphase)]
    exact hinv'.queue_popRelease hphase
  · rw [releasedBy_eq_nil fun _ _ => hphase, List.nil_append]
    exact (hcons.queue_eq rfl hphase).symm

/-- A step other than reset keeps the balance of what goes into the queue and what comes out of it (R318). -/
theorem queue_balance_step {s t : State} (hinv : s.Inv) (hreset : s.nextTurn ≠ some .reset) (h : step s = .next t) :
    s.queue ++ publishedBy s = releasedBy s t ++ t.queue := by
  have hpublished (hne : ∀ draw, s.nextTurn ≠ some (.move .prod draw)) : publishedBy s = [] :=
    publishedBy_eq_nil fun draw hturn => absurd hturn (hne draw)
  have hreleased (hne : ∀ draw, s.nextTurn ≠ some (.move .cons draw)) : releasedBy s t = [] :=
    releasedBy_eq_nil fun draw hturn => absurd hturn (hne draw)
  rcases step_cases h with ⟨hturn, rfl⟩ | ⟨hturn, -⟩ | ⟨p, draw, hturn, -⟩
  · rw [hpublished (by simp [hturn]), hreleased (by simp [hturn]), List.append_nil, List.nil_append]
  · exact absurd hturn hreset
  · cases p with
    | prod => rw [hreleased (by simp [hturn]), List.nil_append, queue_of_prod_turn hinv hturn h]
    | cons => rw [hpublished (by simp [hturn]), List.append_nil, queue_of_cons_turn hinv hturn h]

/-! ## What a run without reset delivers -/

/-- A run of `n + 1` steps is a step and a run of `n`. -/
theorem run_succ {n : Nat} {s u : State} (h : step s = .next u) :
    Host.Core.run core (n + 1) s = Host.Core.run core n u := by
  have hcore : core.step s = .next u := h
  simp only [Host.Core.run, hcore]

theorem step_of_run_succ {n : Nat} {s t : State} (h : Host.Core.run core (n + 1) s = .next t) :
    ∃ u, step s = .next u ∧ Host.Core.run core n u = .next t := by
  simp only [Host.Core.run] at h
  split at h
  case h_1 u hu => exact ⟨u, hu, h⟩
  case h_2 => cases h
  case h_3 => cases h

theorem pushedWords_succ {n : Nat} {s u : State} (h : step s = .next u) :
    pushedWords (n + 1) s = publishedBy s ++ pushedWords n u := by
  rw [pushedWords, h]

theorem poppedWords_succ {n : Nat} {s u : State} (h : step s = .next u) :
    poppedWords (n + 1) s = releasedBy s u ++ poppedWords n u := by
  rw [poppedWords, h]

/-- Every step takes one turn of the schedule, where there is one. -/
theorem step_sched {s t : State} (h : step s = .next t) : t.sched = s.sched.tail := by
  rcases step_cases h with ⟨hturn, rfl⟩ | ⟨-, rfl⟩ | ⟨p, draw, hturn, -⟩
  · rw [(State.nextTurn_none.1 hturn).1, List.tail_nil]
  · rfl
  · cases p with
    | prod => exact ((prodStep_of_step hturn h).frame rfl).sched
    | cons => exact ((consStep_of_step hturn h).frame rfl).sched

theorem nextTurn_ne_reset {n : Nat} {s : State} (h : ∀ turn ∈ s.sched.take (n + 1), turn ≠ .reset) :
    s.nextTurn ≠ some .reset := by
  intro hturn
  obtain ⟨rest, hsched⟩ := State.sched_of_nextTurn_reset hturn
  exact h .reset (by rw [hsched]; exact List.mem_cons_self) rfl

/-- R71: over a run without reset, what was queued and what was pushed is what was popped and what is queued. -/
theorem queue_balance_run {n : Nat} {s t : State} (hinv : s.Inv) (hreset : ∀ turn ∈ s.sched.take n, turn ≠ .reset)
    (hrun : Host.Core.run core n s = .next t) : s.queue ++ pushedWords n s = poppedWords n s ++ t.queue := by
  induction n generalizing s with
  | zero =>
    obtain rfl : s = t := Host.Outcome.next.inj hrun
    exact List.append_nil _
  | succ n ih =>
    obtain ⟨u, hstep, hrest⟩ := step_of_run_succ hrun
    have hsched : u.sched.take n = (s.sched.take (n + 1)).tail := by
      rw [step_sched hstep, List.tail_take_eq_take_tail, Nat.add_sub_cancel]
    have hreset' : ∀ turn ∈ u.sched.take n, turn ≠ .reset := fun turn hmem =>
      hreset turn (List.mem_of_mem_tail (hsched ▸ hmem))
    calc s.queue ++ pushedWords (n + 1) s
      _ = s.queue ++ publishedBy s ++ pushedWords n u := by rw [pushedWords_succ hstep, List.append_assoc]
      _ = releasedBy s u ++ (u.queue ++ pushedWords n u) := by
        rw [queue_balance_step hinv (nextTurn_ne_reset hreset) hstep, List.append_assoc]
      _ = releasedBy s u ++ poppedWords n u ++ t.queue := by
        rw [ih (hinv.step hstep) hreset' hrest, List.append_assoc]
      _ = poppedWords (n + 1) s ++ t.queue := by rw [poppedWords_succ hstep]

/-! ## Endless runs with strong views -/

/-- Where `STALE_VIEWS` is false a load of the other agent's cursor is of the newest count (R62). -/
theorem State.loadOther_strong {s : State} (h : s.params.staleViews = false) (seen stored : Nat) :
    s.loadOther seen stored = stored := by
  rw [State.loadOther, h, Bool.false_and, if_neg Bool.false_ne_true]

/-- The invariant does not look at what the surroundings decide. -/
theorem State.Inv.feed {s : State} (hinv : s.Inv) (i : Input) : (s.feed i).Inv :=
  ⟨hinv.params, hinv.tail, hinv.head, hinv.vh_le, hinv.pop_le_vt, hinv.vt_le, hinv.room, hinv.mem_wf, hinv.mem_inside,
    hinv.written, hinv.prod, hinv.cons⟩

theorem State.nextTurn_feed (s : State) (i : Input) : (s.feed i).nextTurn = some i.turn :=
  State.nextTurn_of_sched (State.feed_sched s i)

section Runs

variable {input : Nat → Input} {run : Nat → State} (hrun : IsRun input run)
include hrun

theorem IsRun.inv (h : (run 0).Inv) (t : Nat) : (run t).Inv := by
  induction t with
  | zero => exact h
  | succ t ih => exact (ih.feed (input t)).step (hrun.steps t)

theorem IsRun.params (t : Nat) : (run t).params = (run 0).params := by
  induction t with
  | zero => rfl
  | succ t ih => rw [step_params (hrun.steps t), State.feed_params, ih]

/-- With strong views a load of `head` leaves the producer with the newest view. -/
theorem IsRun.vh_of_loadsHead {t : Nat} (hstrong : (run 0).params.staleViews = false) (h : LoadsHead input run t) :
    (run (t + 1)).vh = (run t).npop := by
  obtain ⟨hphase, draw, hturn⟩ := h
  have hprod := prodStep_of_step (by rw [State.nextTurn_feed, hturn]) (hrun.steps t)
  rw [hprod.eq_pushLoadHead hphase, pushLoadHead_vh]
  exact State.loadOther_strong (hrun.params t ▸ hstrong) _ _

/-- With strong views a load of `tail` leaves the consumer with the newest view. -/
theorem IsRun.vt_of_loadsTail {t : Nat} (hstrong : (run 0).params.staleViews = false) (h : LoadsTail input run t) :
    (run (t + 1)).vt = (run t).npush := by
  obtain ⟨hphase, draw, hturn⟩ := h
  have hcons := consStep_of_step (by rw [State.nextTurn_feed, hturn]) (hrun.steps t)
  rw [hcons.eq_popLoadTail hphase, popLoadTail_vt]
  exact State.loadOther_strong (hrun.params t ▸ hstrong) _ _

/-- The counters never go back between resets (R35). -/
theorem IsRun.counters_le (hinv : (run 0).Inv) {t : Nat} (hreset : (input t).turn ≠ .reset) :
    (run t).npush ≤ (run (t + 1)).npush ∧ (run t).npop ≤ (run (t + 1)).npop := by
  have hturn : ((run t).feed (input t)).nextTurn ≠ some .reset := by
    rw [State.nextTurn_feed]
    exact fun h => hreset (Option.some.inj h)
  obtain ⟨-, -, hpush, hpop, -, -⟩ :=
    viewsAndCountersOnlyGrow _ _ ((hrun.inv hinv t).feed (input t)) (hrun.steps t) hturn
  exact ⟨hpush, hpop⟩

end Runs

/-- A count that never goes back between resets is still reached at a later moment, unless reset has intervened. -/
theorem le_count_or_reset {input : Nat → Input} {count : Nat → Nat}
    (hgrow : ∀ t, (input t).turn ≠ .reset → count t ≤ count (t + 1)) {t u : Nat} (hle : t ≤ u) :
    count t ≤ count u ∨ ∃ v, t ≤ v ∧ (input v).turn = .reset := by
  induction u, hle using Nat.le_induction with
  | base => exact .inl le_rfl
  | succ u hle ih =>
    by_cases hreset : (input u).turn = .reset
    · exact .inr ⟨u, hle, hreset⟩
    · exact ih.imp_left fun hcount => hcount.trans (hgrow u hreset)

/-- A view that every load brings to the newest count observes every count, unless reset intervenes: the argument of either
half of `FAIR_VIEWS` (R66). -/
theorem observed_or_reset {input : Nat → Input} {count view : Nat → Nat} {loads : Nat → Prop}
    (hgrow : ∀ t, (input t).turn ≠ .reset → count t ≤ count (t + 1)) (hload : ∀ t, loads t → view (t + 1) = count t)
    (hforever : ∀ t, ∃ u, t ≤ u ∧ loads u) {t k : Nat} (hk : k ≤ count t) :
    ∃ u, t ≤ u ∧ (k ≤ view u ∨ (input u).turn = .reset) := by
  obtain ⟨u, hle, hu⟩ := hforever t
  rcases le_count_or_reset hgrow hle with hcount | ⟨v, hv, hreset⟩
  · exact ⟨u + 1, Nat.le_succ_of_le hle, .inl (by rw [hload u hu]; exact hk.trans hcount)⟩
  · exact ⟨v, hv, .inr hreset⟩

/-! ## The wire view -/

/-- Byte `i` of a word is its bits `8i + 7 : 8i` (R50). -/
theorem getLsbD_wordByte (w : Word) (i : Nat) {j : Nat} (hj : j < 8) :
    (wordByte w i).getLsbD j = w.getLsbD (8 * i + j) := by
  simp [wordByte, hj]

/-- Bit by bit, the word of four bytes is the first byte lowest (R50). -/
theorem getLsbD_bytesWord (b0 b1 b2 b3 : Byte) (j : Nat) :
    (bytesWord b0 b1 b2 b3).getLsbD j =
      if j < 8 then b0.getLsbD j else if j < 16 then b1.getLsbD (j - 8)
      else if j < 24 then b2.getLsbD (j - 16) else b3.getLsbD (j - 24) := by
  simp only [bytesWord, BitVec.getLsbD_or, BitVec.getLsbD_shiftLeft, BitVec.zeroExtend, BitVec.getLsbD_setWidth]
  split_ifs <;> grind

theorem bytesWord_wordByte (w : Word) :
    bytesWord (wordByte w 0) (wordByte w 1) (wordByte w 2) (wordByte w 3) = w := by
  refine BitVec.eq_of_getLsbD_eq fun j hj => ?_
  rw [getLsbD_bytesWord]
  split_ifs with h8 h16 h24
  · rw [getLsbD_wordByte w 0 h8, Nat.mul_zero, Nat.zero_add]
  · rw [getLsbD_wordByte w 1 (by omega), show 8 * 1 + (j - 8) = j by omega]
  · rw [getLsbD_wordByte w 2 (by omega), show 8 * 2 + (j - 16) = j by omega]
  · rw [getLsbD_wordByte w 3 (by omega), show 8 * 3 + (j - 24) = j by omega]

theorem wordBytes_bytesWord (b0 b1 b2 b3 : Byte) : wordBytes (bytesWord b0 b1 b2 b3) = [b0, b1, b2, b3] := by
  have hbyte {i : Nat} {b : Byte} (h : ∀ j < 8, (bytesWord b0 b1 b2 b3).getLsbD (8 * i + j) = b.getLsbD j) :
      wordByte (bytesWord b0 b1 b2 b3) i = b :=
    BitVec.eq_of_getLsbD_eq fun j hj => (getLsbD_wordByte _ i hj).trans (h j hj)
  simp only [getLsbD_bytesWord] at hbyte
  rw [wordBytes, hbyte (i := 0) (b := b0) (by grind), hbyte (i := 1) (b := b1) (by grind),
    hbyte (i := 2) (b := b2) (by grind), hbyte (i := 3) (b := b3) (by grind)]

/-- Byte `i` of word `k` of a word sequence is at byte `4k + i` (R51, R52). -/
theorem getElem?_flatMap_wordBytes {ws : List Word} {k : Nat} {w : Word} (hk : ws[k]? = some w) {i : Nat} (hi : i < 4) :
    (ws.flatMap wordBytes)[4 * k + i]? = some (wordByte w i) := by
  induction ws generalizing k with
  | nil => cases hk
  | cons v vs ih =>
    rw [List.flatMap_cons]
    cases k with
    | zero =>
      obtain rfl : v = w := Option.some.inj hk
      rw [List.getElem?_append_left (by simp [wordBytes]; omega)]
      interval_cases i <;> rfl
    | succ k =>
      have hnext : 4 * (k + 1) + i = (wordBytes v).length + (4 * k + i) := by simp [wordBytes]; omega
      rw [hnext, List.getElem?_append_right (Nat.le_add_right _ _), Nat.add_sub_cancel_left]
      exact ih hk

theorem bytesToWords_flatMap_wordBytes (ws : List Word) : bytesToWords (ws.flatMap wordBytes) = ws := by
  induction ws with
  | nil => rfl
  | cons w ws ih =>
    rw [List.flatMap_cons]
    show bytesWord (wordByte w 0) (wordByte w 1) (wordByte w 2) (wordByte w 3) :: bytesToWords (ws.flatMap wordBytes) = _
    rw [bytesWord_wordByte, ih]

/-! ## An execution with stale views -/

/-- A request to push the words `a` and `b`. -/
def pushRequest (a b : Word) : Request :=
  { cmd := encode .rbPush, lanes := { Lanes.zero 2 with d := [a, b] } }

/-- A request to pop. -/
def popRequest : Request :=
  { cmd := encode .rbPop, lanes := Lanes.zero 2 }

/-- One element is queued and the consumer has seen it. The turns to come are those of a push, a pop, a push and a pop; every
load of the other agent's cursor is of the count seen last (free number 0, R62). -/
def staleStart : State :=
  { State.reset with
    tail := 1
    npush := 1
    vt := 1
    mem := [(0, 0xA0), (1, 0xA1)]
    prodIO := { PortIO.zero 2 with pending := [pushRequest 0xB0 0xB1, pushRequest 0xC0 0xC1] }
    consIO := { PortIO.zero 2 with pending := [popRequest, popRequest] }
    sched := turnsOf .prod (List.replicate 6 0) ++ turnsOf .cons (List.replicate 6 0) ++
      turnsOf .prod (List.replicate 4 0) ++ turnsOf .cons (List.replicate 4 0) }

/-- The first push and the first pop have succeeded. The producer has not seen the pop and the consumer not the push, so the
second push has answered `FULL` and the second pop `EMPTY`. -/
def staleEnd : State :=
  { State.reset with
    head := 1
    tail := 2
    npush := 2
    npop := 1
    vt := 1
    mem := [(0, 0xA0), (1, 0xA1), (2, 0xB0), (3, 0xB1)]
    prod := { phase := .idle, h := 0, t := 2, d := [0xC0, 0xC1] }
    cons := { phase := .idle, h := 1, t := 1, d := [0xA0, 0xA1] }
    prodIO :=
      { pending := []
        req := pushRequest 0xC0 0xC1
        rsp := some { status := .full, lanes := { Lanes.zero 2 with d := [0xC0, 0xC1] } } }
    consIO := { pending := [], req := popRequest, rsp := some { status := .empty, lanes := Lanes.zero 2 } }
    port := .cons }

theorem run_staleStart : Host.Core.run core 20 staleStart = .next staleEnd := rfl

theorem inv_staleStart : staleStart.Inv where
  params := by decide
  tail := rfl
  head := rfl
  vh_le := by decide
  pop_le_vt := by decide
  vt_le := by decide
  room := by decide
  mem_wf := by decide
  mem_inside := by decide
  written k hlt _ := by
    have hk : k = 0 := Nat.lt_one_iff.1 hlt
    have hslot : staleStart.slotWritten 0 = [0xA0, 0xA1].map some := rfl
    rw [hk]
    exact State.isSome_of_slotWritten hslot
  prod := trivial
  cons := trivial

/-! ## The obligations -/

/-- Settles O47: the balance of the queue over the run; from an empty queue, the words popped are the
first of those pushed. -/
theorem deliveredInOrder : Obligations.DeliveredInOrder := by
  unfold Obligations.DeliveredInOrder
  intro n s t hinv hreset hrun
  have hbalance := queue_balance_run hinv hreset hrun
  refine ⟨hbalance, fun hempty i d hpop => ?_⟩
  rw [hempty, List.nil_append] at hbalance
  rw [hbalance, List.getElem?_append_left (List.getElem?_eq_some_iff.1 hpop).1, hpop]

/-- Settles O48: at P4 the producer has seen room and at C4 the consumer an element, so the counts of the two slots differ by
less than `C`. -/
theorem noDataRaceOnASlot : Obligations.NoDataRaceOnASlot := by
  unfold Obligations.NoDataRaceOnASlot
  intro s hinv hp4 hc4
  obtain ⟨-, ht, hroom⟩ := hinv.at_p4 hp4
  obtain ⟨hh, hseen⟩ := hinv.at_c4 hc4
  have hcap := Params.capacity_pos hinv.params
  have hslots : slotOf s.params.capacity s.prod.t ≠ slotOf s.params.capacity s.cons.h := by
    rw [ht, hh, State.position, State.position, slotOf_mod hcap, slotOf_mod hcap]
    exact (hinv.slot_ne_of_room hroom le_rfl (hseen.trans_le hinv.vt_le)).symm
  refine ⟨hslots, ?_⟩
  rintro a hlo hhi ⟨hlo', hhi'⟩
  obtain ⟨i, hi⟩ := Nat.exists_eq_add_of_le hlo
  obtain ⟨j, hj⟩ := Nat.exists_eq_add_of_le hlo'
  exact hslots (slot_disjoint (by omega) (by omega) (hi.symm.trans hj))

/-- Settles O58: the two halves of `FAIR_VIEWS` are one argument about a count that grows and a view that a load brings up
to it. -/
theorem strongViewsAreFair : Obligations.StrongViewsAreFair := by
  unfold Obligations.StrongViewsAreFair
  intro input run hrun hinv hstrong
  refine ⟨fun hforever t k hk => ?head, fun hforever t k hk => ?tail⟩
  case head =>
    exact observed_or_reset (count := fun t => (run t).npop) (view := fun t => (run t).vh)
      (fun _ hreset => (hrun.counters_le hinv hreset).2) (fun _ => hrun.vh_of_loadsHead hstrong) hforever hk
  case tail =>
    exact observed_or_reset (count := fun t => (run t).npush) (view := fun t => (run t).vt)
      (fun _ hreset => (hrun.counters_le hinv hreset).1) (fun _ => hrun.vt_of_loadsTail hstrong) hforever hk

/-- Settles O60: the bits of a byte and of four bytes, and the place of each word's four bytes in a word sequence. -/
theorem wireViewIsLittleEndian : Obligations.WireViewIsLittleEndian := by
  unfold Obligations.WireViewIsLittleEndian
  refine ⟨fun w i j _ hj => getLsbD_wordByte w i hj, bytesWord_wordByte, wordBytes_bytesWord, ?header, ?payload,
    fun hd pl => bytesToWords_flatMap_wordBytes _⟩
  case header =>
    intro hd pl k i hi
    refine getElem?_flatMap_wordBytes (k := k) ?_ hi
    rw [List.getElem?_append_left (by simp)]
    simp
  case payload =>
    intro hd pl j w i hj hi
    have hword : (hd.toList ++ pl)[8 + j]? = some w := by
      rw [List.getElem?_append_right (by simp)]
      simpa using hj
    rw [payloadOffset, show 32 + 4 * j = 4 * (8 + j) by omega]
    exact getElem?_flatMap_wordBytes hword hi

/-- Settles O57 by the execution from `staleStart` to `staleEnd`. -/
theorem staleViewsAllowFullAndEmpty : Obligations.StaleViewsAllowFullAndEmpty := by
  unfold Obligations.StaleViewsAllowFullAndEmpty
  exact ⟨staleStart, staleEnd, 20, inv_staleStart, rfl, rfl, rfl, rfl, rfl, rfl, run_staleStart, rfl, rfl, rfl, rfl, rfl, rfl,
    rfl⟩

end Sys2Proof.Machine

/-! PROOFS. The command word: its fields in each format, the commands as a list, decoding and encoding as inverses of each
other, the depths that have commands, and the rights of the ports. -/

namespace Sys2Proof

/-! ## The fields of a command word (R81 to R84) -/

theorem cmdUnit_eq (w : Word) : cmdUnit w = w.toNat / 2 ^ 28 := by
  have hlt := w.isLt
  rw [cmdUnit, BitVec.extractLsb'_toNat, Nat.shiftRight_eq_div_pow]
  omega

theorem cmdOp_eq (w : Word) : cmdOp w = w.toNat / 2 ^ 24 % 2 ^ 4 := by
  rw [cmdOp, BitVec.extractLsb'_toNat, Nat.shiftRight_eq_div_pow]

theorem cmdFsel_eq (w : Word) : cmdFsel w = w.toNat % 2 ^ 4 := by
  rw [cmdFsel, BitVec.extractLsb'_toNat, Nat.shiftRight_zero]

theorem cmdBm1_eq (w : Word) : cmdBm1 w = w.toNat % 2 ^ 5 := by
  rw [cmdBm1, BitVec.extractLsb'_toNat, Nat.shiftRight_zero]

theorem toNat_cmdCx (w : Word) : (cmdCx w).toNat = w.toNat / 2 ^ 23 % 2 := by
  rw [cmdCx, BitVec.getLsbD, Nat.toNat_testBit]

/-- A field of a word is zero just when it is zero as a number. -/
theorem extractLsb'_eq_zero_iff (w : Word) (lo n : Nat) :
    w.extractLsb' lo n = 0 ↔ w.toNat / 2 ^ lo % 2 ^ n = 0 := by
  rw [← BitVec.toNat_inj, BitVec.extractLsb'_toNat, Nat.shiftRight_eq_div_pow]
  simp

/-- A word with bits 23:0 zero is its `UNIT` and its `OP` (R84). -/
theorem toNat_of_low24_zero {w : Word} (h : w.extractLsb' 0 24 = 0) :
    w.toNat = 2 ^ 28 * cmdUnit w + 2 ^ 24 * cmdOp w := by
  rw [extractLsb'_eq_zero_iff] at h
  rw [cmdUnit_eq, cmdOp_eq]
  omega

/-- A word with bits 23:4 zero is its `UNIT`, its `OP` and its `FSEL` (R82). -/
theorem toNat_formatH {w : Word} (h : w.extractLsb' 4 20 = 0) :
    w.toNat = 2 ^ 28 * cmdUnit w + 2 ^ 24 * cmdOp w + cmdFsel w := by
  rw [extractLsb'_eq_zero_iff] at h
  rw [cmdUnit_eq, cmdOp_eq, cmdFsel_eq]
  omega

/-- A word with bits 22:5 zero is its `UNIT`, its `OP`, its `CX` and its `BM1` (R83). -/
theorem toNat_formatP {w : Word} (h : w.extractLsb' 5 18 = 0) :
    w.toNat = 2 ^ 28 * cmdUnit w + 2 ^ 24 * cmdOp w + 2 ^ 23 * (cmdCx w).toNat + cmdBm1 w := by
  rw [extractLsb'_eq_zero_iff] at h
  rw [cmdUnit_eq, cmdOp_eq, toNat_cmdCx, cmdBm1_eq]
  omega

theorem cmdFsel_lt (w : Word) : cmdFsel w < 16 := by
  rw [cmdFsel_eq]
  omega

/-! ## What each format decodes (R82 to R84) -/

theorem ite_error_eq_ok_iff {c : Prop} [Decidable c] {x : Except DecodeError Instr} {e : DecodeError} {i : Instr} :
    (if c then x else .error e) = .ok i ↔ c ∧ x = .ok i := by
  split <;> simp [*]

theorem depthInstr_eq_ok_iff {o : Option Instr} {i : Instr} : depthInstr o = .ok i ↔ o = some i := by
  cases o <;> simp [depthInstr]

/-- Every word that decodes to a command is of format H, P or R, by its unit (R81). -/
theorem decode_cases {w : Word} {i : Instr} (h : decode w = .ok i) :
    (cmdUnit w = 1 ∧ decodeH w = .ok i) ∨ (cmdUnit w = 2 ∧ decodeP w = .ok i) ∨ (cmdUnit w = 3 ∧ decodeR w = .ok i) := by
  unfold decode at h
  split at h
  · exact .inl ⟨‹_›, h⟩
  · exact .inr (.inl ⟨‹_›, h⟩)
  · exact .inr (.inr ⟨‹_›, h⟩)
  · cases h

/-- Everything a word of format H can decode to (R82). -/
theorem decodeH_cases {w : Word} {i : Instr} (h : decodeH w = .ok i) :
    (cmdOp w = 0 ∧ w.extractLsb' 0 24 = 0 ∧ i = .hdrDec) ∨ (cmdOp w = 1 ∧ w.extractLsb' 0 24 = 0 ∧ i = .hdrEnc) ∨
    (cmdOp w = 2 ∧ w.extractLsb' 4 20 = 0 ∧ i = hdrGetInstr (.ofFsel (cmdFsel w))) ∨
    (cmdOp w = 3 ∧ w.extractLsb' 4 20 = 0 ∧ i = hdrSetInstr (.ofFsel (cmdFsel w))) := by
  unfold decodeH at h
  split at h <;> simp only [ite_error_eq_ok_iff, Except.ok.injEq, reduceCtorEq] at h <;> obtain ⟨hzero, rfl⟩ := h
  · exact .inl ⟨‹_›, hzero, rfl⟩
  · exact .inr (.inl ⟨‹_›, hzero, rfl⟩)
  · exact .inr (.inr (.inl ⟨‹_›, hzero, rfl⟩))
  · exact .inr (.inr (.inr ⟨‹_›, hzero, rfl⟩))

/-- Everything a word of format P can decode to (R83, R87). -/
theorem decodeP_cases {w : Word} {i : Instr} (h : decodeP w = .ok i) :
    w.extractLsb' 5 18 = 0 ∧
    ((cmdOp w = 0 ∧ cmdCx w = false ∧ unpackRealInstr (cmdBm1 w + 1) = some i) ∨
     (cmdOp w = 0 ∧ cmdCx w = true ∧ unpackComplexInstr (cmdBm1 w + 1) = some i) ∨
     (cmdOp w = 1 ∧ cmdCx w = false ∧ packRealInstr (cmdBm1 w + 1) = some i) ∨
     (cmdOp w = 1 ∧ cmdCx w = true ∧ packComplexInstr (cmdBm1 w + 1) = some i)) := by
  unfold decodeP at h
  split at h <;> simp only [ite_error_eq_ok_iff, depthInstr_eq_ok_iff, reduceCtorEq] at h <;> obtain ⟨hzero, h⟩ := h
  · cases hcx : cmdCx w <;> rw [hcx] at h
    · exact ⟨hzero, .inl ⟨‹_›, rfl, h⟩⟩
    · exact ⟨hzero, .inr (.inl ⟨‹_›, rfl, h⟩)⟩
  · cases hcx : cmdCx w <;> rw [hcx] at h
    · exact ⟨hzero, .inr (.inr (.inl ⟨‹_›, rfl, h⟩))⟩
    · exact ⟨hzero, .inr (.inr (.inr ⟨‹_›, rfl, h⟩))⟩

/-- Everything a word of format R can decode to (R84). -/
theorem decodeR_cases {w : Word} {i : Instr} (h : decodeR w = .ok i) :
    w.extractLsb' 0 24 = 0 ∧ ((cmdOp w = 0 ∧ i = .rbPush) ∨ (cmdOp w = 1 ∧ i = .rbPop)) := by
  unfold decodeR at h
  split at h <;> simp only [ite_error_eq_ok_iff, Except.ok.injEq, reduceCtorEq] at h <;> obtain ⟨hzero, rfl⟩ := h
  · exact ⟨hzero, .inl ⟨‹_›, rfl⟩⟩
  · exact ⟨hzero, .inr ⟨‹_›, rfl⟩⟩

/-! ## The command words of the families (R90) -/

theorem toNat_encode_hdrGet {k : Nat} (hk : k < 16) : (encode (hdrGetInstr (.ofFsel k))).toNat = 0x12000000 + k := by
  interval_cases k <;> rfl

theorem toNat_encode_hdrSet {k : Nat} (hk : k < 16) : (encode (hdrSetInstr (.ofFsel k))).toNat = 0x13000000 + k := by
  interval_cases k <;> rfl

theorem toNat_encode_unpackReal {b : Nat} {i : Instr} (h : unpackRealInstr b = some i) :
    (encode i).toNat = 0x20000000 + (b - 1) := by
  unfold unpackRealInstr at h
  split at h <;> cases h <;> rfl

theorem toNat_encode_packReal {b : Nat} {i : Instr} (h : packRealInstr b = some i) :
    (encode i).toNat = 0x21000000 + (b - 1) := by
  unfold packRealInstr at h
  split at h <;> cases h <;> rfl

theorem toNat_encode_unpackComplex {b : Nat} {i : Instr} (h : unpackComplexInstr b = some i) :
    (encode i).toNat = 0x20800000 + (b - 1) := by
  unfold unpackComplexInstr at h
  split at h <;> cases h <;> rfl

theorem toNat_encode_packComplex {b : Nat} {i : Instr} (h : packComplexInstr b = some i) :
    (encode i).toNat = 0x21800000 + (b - 1) := by
  unfold packComplexInstr at h
  split at h <;> cases h <;> rfl

/-! ## Decoding and encoding -/

theorem toNat_encode_of_decodeH {w : Word} {i : Instr} (hunit : cmdUnit w = 1) (h : decodeH w = .ok i) :
    (encode i).toNat = w.toNat := by
  rcases decodeH_cases h with ⟨hop, hzero, rfl⟩ | ⟨hop, hzero, rfl⟩ | ⟨hop, hzero, rfl⟩ | ⟨hop, hzero, rfl⟩
  · rw [toNat_of_low24_zero hzero, hunit, hop]; rfl
  · rw [toNat_of_low24_zero hzero, hunit, hop]; rfl
  · rw [toNat_formatH hzero, hunit, hop, toNat_encode_hdrGet (cmdFsel_lt w)]; rfl
  · rw [toNat_formatH hzero, hunit, hop, toNat_encode_hdrSet (cmdFsel_lt w)]; rfl

theorem toNat_encode_of_decodeP {w : Word} {i : Instr} (hunit : cmdUnit w = 2) (h : decodeP w = .ok i) :
    (encode i).toNat = w.toNat := by
  obtain ⟨hzero, h⟩ := decodeP_cases h
  rw [toNat_formatP hzero, hunit]
  rcases h with ⟨hop, hcx, h⟩ | ⟨hop, hcx, h⟩ | ⟨hop, hcx, h⟩ | ⟨hop, hcx, h⟩
  · rw [toNat_encode_unpackReal h, hop, hcx]; rfl
  · rw [toNat_encode_unpackComplex h, hop, hcx]; rfl
  · rw [toNat_encode_packReal h, hop, hcx]; rfl
  · rw [toNat_encode_packComplex h, hop, hcx]; rfl

theorem toNat_encode_of_decodeR {w : Word} {i : Instr} (hunit : cmdUnit w = 3) (h : decodeR w = .ok i) :
    (encode i).toNat = w.toNat := by
  obtain ⟨hzero, h⟩ := decodeR_cases h
  rw [toNat_of_low24_zero hzero, hunit]
  rcases h with ⟨hop, rfl⟩ | ⟨hop, rfl⟩ <;> rw [hop] <;> rfl

/-- A word that decodes to a command is that command's word: the formats leave no bit free. -/
theorem eq_encode_of_decode {w : Word} {i : Instr} (h : decode w = .ok i) : w = encode i := by
  refine (BitVec.eq_of_toNat_eq ?_).symm
  rcases decode_cases h with ⟨hunit, h⟩ | ⟨hunit, h⟩ | ⟨hunit, h⟩
  · exact toNat_encode_of_decodeH hunit h
  · exact toNat_encode_of_decodeP hunit h
  · exact toNat_encode_of_decodeR hunit h

/-- The rows of `Sys2Proof/Laws/PerInstr.lean` as one statement. -/
theorem decode_encode (i : Instr) : decode (encode i) = .ok i := by
  cases i <;> rfl

/-! ## The commands -/

/-- The commands in the order of the rows of R90. -/
def Instr.all : List Instr :=
  (List.range 120).map Instr.ofNat

theorem Instr.ctorIdx_ofNat : ∀ n < 120, (Instr.ofNat n).ctorIdx = n := by decide

theorem Instr.ctorIdx_lt (i : Instr) : i.ctorIdx < 120 := by
  cases i <;> decide

theorem Instr.mem_all (i : Instr) : i ∈ Instr.all :=
  List.mem_map.2 ⟨i.ctorIdx, List.mem_range.2 i.ctorIdx_lt, Instr.ofNat_ctorIdx i⟩

theorem Instr.length_all : Instr.all.length = 120 := by
  rw [all, List.length_map, List.length_range]

/-- No command stands twice in the list: its row is its number as a constructor. -/
theorem Instr.nodup_all : Instr.all.Nodup := by
  refine List.Nodup.map_on (fun m hm n hn h => ?_) List.nodup_range
  rw [← ctorIdx_ofNat m (List.mem_range.1 hm), h, ctorIdx_ofNat n (List.mem_range.1 hn)]

/-! ## The depths that have commands (R86) -/

theorem isSome_unpackRealInstr (b : Nat) :
    (unpackRealInstr b).isSome = true ↔ b ∈ [1, 2, 3, 4, 6, 7, 8] ∨ (11 ≤ b ∧ b ≤ 32) := by
  unfold unpackRealInstr
  split <;> simp
  -- what is left is the catch-all arm, a depth that is none of the listed ones
  grind

theorem isSome_packRealInstr (b : Nat) :
    (packRealInstr b).isSome = true ↔ b ∈ [1, 2, 3, 4, 6, 7, 8] ∨ (11 ≤ b ∧ b ≤ 32) := by
  unfold packRealInstr
  split <;> simp
  -- what is left is the catch-all arm, a depth that is none of the listed ones
  grind

theorem isSome_unpackComplexInstr (b : Nat) :
    (unpackComplexInstr b).isSome = true ↔ b ∈ [1, 2, 3, 4, 6, 7, 8] ∨ (11 ≤ b ∧ b ≤ 16) := by
  unfold unpackComplexInstr
  split <;> simp
  -- what is left is the catch-all arm, a depth that is none of the listed ones
  grind

theorem isSome_packComplexInstr (b : Nat) :
    (packComplexInstr b).isSome = true ↔ b ∈ [1, 2, 3, 4, 6, 7, 8] ∨ (11 ≤ b ∧ b ≤ 16) := by
  unfold packComplexInstr
  split <;> simp
  -- what is left is the catch-all arm, a depth that is none of the listed ones
  grind

/-! ## Words that are no command (R94 to R98) -/

/-- The sample words that are no command, each with the reason. -/
def refusedWords : List (Word × DecodeError) :=
  [(0x00000000#32, .unknownUnit), (0xFFFFFFFF#32, .unknownUnit), (0x40000000#32, .unknownUnit),
   (0x14000000#32, .unknownOp), (0x10000001#32, .nonzeroField), (0x11000005#32, .nonzeroField),
   (0x12000010#32, .nonzeroField), (0x13800000#32, .nonzeroField), (0x22000000#32, .unknownOp),
   (0x20000004#32, .reservedDepth), (0x21000008#32, .reservedDepth), (0x20800009#32, .reservedDepth),
   (0x20800010#32, .reservedDepth), (0x2180001F#32, .reservedDepth), (0x20000020#32, .nonzeroField),
   (0x20400000#32, .nonzeroField), (0x32000000#32, .unknownOp), (0x30000001#32, .nonzeroField),
   (0x31800000#32, .nonzeroField)]

theorem decode_refusedWords : ∀ p ∈ refusedWords, decode p.1 = .error p.2 := by decide

/-- A refused sample word decodes to no command. -/
theorem decode_ne_ok_of_refused {w : Word} (hw : w ∈ refusedWords.map Prod.fst) (i : Instr) : decode w ≠ .ok i := by
  obtain ⟨p, hp, rfl⟩ := List.mem_map.1 hw
  rw [decode_refusedWords p hp]
  exact nofun

end Sys2Proof

namespace Sys2Proof.Machine

/-! ## Which port accepts which ring command (R92) -/

theorem pushAccept_of_length_eq {s : State} (h : s.request.lanes.d.length = s.params.slotWords) :
    pushAccept s = .next (pushLatch s) := by
  rw [pushAccept, if_pos (Request.wf_iff.2 h)]

theorem exec_rbPop_idle {s : State} (hport : s.port = .cons) (hphase : s.cons.phase = .idle) :
    exec .rbPop s = .next (popAccept s) := by
  simp only [exec, execRbPop, hport, hphase]

/-- `RB.POP` on the producer port is illegal (R92, R344). -/
theorem exec_rbPop_prod_idle {s : State} (hport : s.port = .prod) (hidle : s.portIdle = true) :
    exec .rbPop s = .next s.respondIllegal := by
  simp only [exec, execRbPop, hport, hidle, if_true]

/-- `RB.PUSH` on the consumer port is illegal (R92, R344). -/
theorem exec_rbPush_cons_idle {s : State} (hport : s.port = .cons) (hidle : s.portIdle = true) :
    exec .rbPush s = .next s.respondIllegal := by
  simp only [exec, execRbPush, hport, hidle, if_true]

/-! ## The obligations -/

/-- Settles O2: the formats leave no bit of a command word free, so a word that decodes to a command is its word, and every
command word decodes to its command. -/
theorem decodeAnswersExactlyTheOpcodeMap : Obligations.DecodeAnswersExactlyTheOpcodeMap := by
  unfold Obligations.DecodeAnswersExactlyTheOpcodeMap
  refine ⟨⟨Instr.all, Instr.nodup_all, Instr.length_all, Instr.mem_all⟩, fun w i => ⟨eq_encode_of_decode, ?_⟩⟩
  rintro rfl
  exact decode_encode i

/-- Settles O31: a codec command answers on any idle port, each port begins its own ring command, and the other ring command
ends with `ILLEGAL`. -/
theorem portRights : Obligations.PortRights := by
  unfold Obligations.PortRights
  intro s hidle
  refine ⟨?codec, ?producer, ?consumer⟩
  case codec =>
    intro i hcodec
    obtain ⟨f, hf⟩ := exec_codec hcodec
    exact ⟨f s.params s.request.lanes, by rw [hf, State.codec_idle hidle]⟩
  case producer =>
    intro hport
    have hphase := (State.portIdle_prod hport).1 hidle
    refine ⟨fun hlength => ⟨pushLatch s, ?_, rfl⟩, exec_rbPop_prod_idle hport hidle, sameRing_respond s _ _⟩
    rw [exec_rbPush_idle hport hphase, pushAccept_of_length_eq hlength]
  case consumer =>
    intro hport
    have hphase := (State.portIdle_cons hport).1 hidle
    exact ⟨⟨popAccept s, exec_rbPop_idle hport hphase, rfl⟩, exec_rbPush_cons_idle hport hidle, sameRing_respond s _ _⟩

/-- Settles O1: each sample word is the command word of its command or one of the refused words, and the depths with a
command are those of R86. -/
theorem commandWordsDecode : Obligations.CommandWordsDecode := by
  unfold Obligations.CommandWordsDecode
  refine ⟨decode_encode .hdrDec, decode_encode .hdrEnc, decode_encode .hdrGetFrameLen8, decode_encode .hdrSetEdv3,
    decode_encode .pldUnpackR6, decode_encode .pldPackR32, decode_encode .pldUnpackC16, decode_encode .pldPackC1,
    decode_encode .rbPush, decode_encode .rbPop, fun w hw => decode_ne_ok_of_refused hw,
    fun b _ => ⟨?real, isSome_unpackRealInstr b⟩, fun b _ => ⟨?complex, isSome_unpackComplexInstr b⟩⟩
  case real => rw [Bool.eq_iff_iff, isSome_unpackRealInstr, isSome_packRealInstr]
  case complex => rw [Bool.eq_iff_iff, isSome_unpackComplexInstr, isSome_packComplexInstr]

end Sys2Proof.Machine

/-! PROOFS. The header codec: get and set bit by bit, encoding as the sixteen sets from the zero image, decoding lane by lane,
and the sizes read off a record. -/

namespace Sys2Proof

/-- Bit `j` of its word belongs to a field (R110). -/
abbrev HdrLayout.covers (lay : HdrLayout) (f : HdrField) (j : Nat) : Prop :=
  lay.shift f ≤ j ∧ j < lay.shift f + f.width

/-- In a legal layout a bit of a word belongs to one field at most. -/
theorem HdrLayout.eq_of_covers {lay : HdrLayout} (hwf : lay.wf = true) {f g : HdrField} {j : Nat} (hword : f.word = g.word)
    (hf : lay.covers f j) (hg : lay.covers g j) : f = g := by
  by_contra hne
  have := lay.apart hwf hne hword
  omega

/-- The default layout assigns every bit but bits 31:30 of word 1 (R110, R154). -/
theorem HdrLayout.covers_vdif :
    ∀ (k : Fin 8), ∀ j < 32, (∃ f ∈ HdrField.all, f.word = k ∧ HdrLayout.vdif.covers f j) ↔ (k = 1 → j < 30) := by
  decide

/-- Two images with the same bits are the same. -/
theorem Image.ext_bits {a b : Image}
    (h : ∀ (k : Fin 8), ∀ j < 32, a[k].getLsbD j = true ↔ b[k].getLsbD j = true) : a = b := by
  refine Vector.ext fun k hk => BitVec.eq_of_getLsbD_eq fun j hj => ?_
  exact Bool.eq_iff_iff.2 (h ⟨k, hk⟩ j hj)

/-- Two records with the same lanes are the same. -/
theorem HdrRecord.ext_lane {a b : HdrRecord} (h : ∀ f, a.lane f = b.lane f) : a = b := by
  cases a
  cases b
  rw [HdrRecord.mk.injEq]
  exact ⟨h .invalid, h .legacy, h .seconds, h .refEpoch, h .frameNo, h .version, h .log2Chans,
    h .frameLen8, h .complex, h .bpsM1, h .threadId, h .stationId, h .edv0, h .edv1, h .edv2, h .edv3⟩

theorem HdrRecord.inWidth_iff {h : HdrRecord} : h.inWidth = true ↔ ∀ f, (h.lane f).toNat < 2 ^ f.width := by
  simp [HdrRecord.inWidth, HdrField.mem_all]

end Sys2Proof

namespace Sys2Proof.Machine

/-! ## Get -/

theorem mask_32 : mask 32 = BitVec.allOnes 32 := rfl

/-- A field that is a whole word is read as that word (R128 to R131). -/
theorem fldGet_of_whole {lay : HdrLayout} {f : HdrField} (hshift : lay.shift f = 0) (hwidth : f.width = 32) (w : Image) :
    fldGet lay f w = w[f.word] := by
  rw [fldGet, hshift, hwidth, mask_32, BitVec.and_allOnes, BitVec.ushiftRight_zero]

theorem fldGet_invalid_lt (lay : HdrLayout) (w : Image) : (fldGet lay .invalid w).toNat < 2 := by
  rw [toNat_fldGet]
  exact Nat.mod_lt _ (by decide)

/-! ## Set -/

/-- A set masks its value, so masking it before changes nothing. -/
theorem fldPut_and_mask (lay : HdrLayout) (f : HdrField) (v : Word) :
    fldPut lay f (v &&& mask f.width) = fldPut lay f v := by
  rw [fldPut, BitVec.and_assoc, BitVec.and_self, fldPut]

theorem fldPut_of_low {lay : HdrLayout} {f : HdrField} (hshift : lay.shift f = 0) (v : Word) :
    fldPut lay f v = v &&& mask f.width := by
  rw [fldPut, hshift, BitVec.shiftLeft_zero]

/-- A field that is a whole word takes the value as it is (R144 to R147). -/
theorem fldPut_of_whole {lay : HdrLayout} {f : HdrField} (hshift : lay.shift f = 0) (hwidth : f.width = 32) (v : Word) :
    fldPut lay f v = v := by
  rw [fldPut_of_low hshift, hwidth, mask_32, BitVec.and_allOnes]

theorem getLsbD_fldPut_iff {lay : HdrLayout} {f : HdrField} {v : Word} {j : Nat} :
    (fldPut lay f v).getLsbD j = true ↔ j < 32 ∧ lay.covers f j ∧ v.getLsbD (j - lay.shift f) = true := by
  simp only [getLsbD_fldPut, Bool.and_eq_true, decide_eq_true_eq]

theorem fldSet_word_same (lay : HdrLayout) (f : HdrField) (v : Word) (w : Image) :
    (fldSet lay f v w)[f.word] = w[f.word] ||| fldPut lay f v :=
  Vector.getElem_set_self _

theorem fldSet_word_of_ne {lay : HdrLayout} {f : HdrField} {k : Fin 8} (h : k ≠ f.word) (v : Word) (w : Image) :
    (fldSet lay f v w)[k] = w[k] :=
  Vector.getElem_set_ne _ _ fun heq => h (Fin.ext heq.symm)

/-- A set adds the bits of the placed value to the field's word (R112). -/
theorem getLsbD_fldSet_iff {lay : HdrLayout} {f : HdrField} {v : Word} {w : Image} {k : Fin 8} {j : Nat} :
    (fldSet lay f v w)[k].getLsbD j = true ↔
      w[k].getLsbD j = true ∨ (f.word = k ∧ (fldPut lay f v).getLsbD j = true) := by
  by_cases h : f.word = k
  · subst h
    rw [fldSet_word_same, BitVec.getLsbD_or, Bool.or_eq_true, eq_self_iff_true, true_and]
  · rw [fldSet_word_of_ne (Ne.symm h), or_iff_left (fun hplaced => h hplaced.1)]

/-- Sets commute, since OR does (R155). -/
theorem fldSet_comm (lay : HdrLayout) (f g : HdrField) (a b : Word) (w : Image) :
    fldSet lay f a (fldSet lay g b w) = fldSet lay g b (fldSet lay f a w) := by
  refine Image.ext_bits fun k j _ => ?_
  simp only [getLsbD_fldSet_iff]
  exact or_right_comm

/-- Get after set of the same field is the OR of the old value and the masked new one (R155). -/
theorem fldGet_fldSet_same {lay : HdrLayout} {f : HdrField} (hfits : lay.shift f + f.width ≤ 32) (v : Word) (w : Image) :
    fldGet lay f (fldSet lay f v w) = fldGet lay f w ||| (v &&& mask f.width) := by
  refine BitVec.eq_of_getLsbD_eq fun j _ => ?_
  rw [BitVec.getLsbD_or, BitVec.getLsbD_and, getLsbD_mask f.width_le, getLsbD_fldGet, getLsbD_fldGet, fldSet_word_same,
    BitVec.getLsbD_or, getLsbD_fldPut]
  by_cases hj : j < f.width
  · have h32 : lay.shift f + j < 32 := by omega
    simp [hj, h32]
  · simp [hj]

/-- Get after set of another field reads what it read before (R155). -/
theorem fldGet_fldSet_of_ne {lay : HdrLayout} (hwf : lay.wf = true) {f g : HdrField} (hne : f ≠ g) (v : Word) (w : Image) :
    fldGet lay g (fldSet lay f v w) = fldGet lay g w := by
  refine BitVec.eq_of_getLsbD_eq fun j _ => ?_
  rw [Bool.eq_iff_iff, getLsbD_fldGet, getLsbD_fldGet]
  simp only [Bool.and_eq_true, decide_eq_true_eq, getLsbD_fldSet_iff, getLsbD_fldPut_iff]
  refine and_congr_right fun hj => or_iff_left ?_
  rintro ⟨hword, -, hcovers, -⟩
  exact hne (lay.eq_of_covers hwf hword hcovers ⟨by omega, by omega⟩)

/-! ## Decoding -/

theorem lane_decodeHeader {f : HdrField} (hf : f ≠ .invalid) (lay : HdrLayout) (w : Image) :
    (decodeHeader lay w).lane f = fldGet lay f w := by
  cases f with
  | invalid => exact absurd rfl hf
  | _ => rfl

theorem setValue_of_ne {f : HdrField} (hf : f ≠ .invalid) (h : HdrRecord) : setValue h f = h.lane f := by
  cases f with
  | invalid => exact absurd rfl hf
  | _ => rfl

/-- `is_valid` is 1 minus the stored flag (R39). -/
theorem toNat_isValid_decodeHeader (lay : HdrLayout) (w : Image) :
    (decodeHeader lay w).isValid.toNat = 1 - (fldGet lay .invalid w).toNat := by
  have hlt := fldGet_invalid_lt lay w
  have hdef : (decodeHeader lay w).isValid = 1 - fldGet lay .invalid w := rfl
  rw [hdef]
  bv_omega

/-- What the sets of a decoded record write are the stored bits: the flag is complemented twice. -/
theorem setValue_decodeHeader (lay : HdrLayout) (w : Image) (f : HdrField) :
    setValue (decodeHeader lay w) f = fldGet lay f w := by
  by_cases hf : f = .invalid
  · subst hf
    exact sub_sub_cancel 1 _
  · rw [setValue_of_ne hf, lane_decodeHeader hf]

/-! ## Encoding is the sixteen sets from the zero image (R155) -/

/-- The sets of a list of fields, one after the other, with the lanes of a record. -/
def fldSets (lay : HdrLayout) (h : HdrRecord) (order : List HdrField) (w : Image) : Image :=
  order.foldl (fun w f => fldSet lay f (setValue h f) w) w

theorem fldSets_perm {order order' : List HdrField} (hperm : order.Perm order') (lay : HdrLayout) (h : HdrRecord)
    (w : Image) : fldSets lay h order w = fldSets lay h order' w :=
  hperm.foldl_eq' (fun f _ g _ w => fldSet_comm lay g f (setValue h g) (setValue h f) w) w

theorem getLsbD_fldSets_iff {lay : HdrLayout} {h : HdrRecord} {order : List HdrField} {w : Image} {k : Fin 8} {j : Nat} :
    (fldSets lay h order w)[k].getLsbD j = true ↔
      w[k].getLsbD j = true ∨ ∃ f ∈ order, f.word = k ∧ (fldPut lay f (setValue h f)).getLsbD j = true := by
  induction order generalizing w with
  | nil => simp [fldSets]
  | cons f order ih =>
    rw [fldSets, List.foldl_cons, ← fldSets, ih, getLsbD_fldSet_iff]
    simp [or_assoc]

/-- Complementing the low bit of a word is the low bit of `1 - v` (R39). -/
theorem one_sub_and_one (v : Word) : 1#32 - (v &&& 1#32) = (1#32 - v) &&& mask 1 := by
  refine BitVec.eq_of_toNat_eq ?_
  have hone : (v &&& 1#32).toNat = v.toNat % 2 := toNat_and_mask (n := 1) (by decide) v
  rw [toNat_and_mask (by decide)]
  bv_omega

/-- `HDR.ENC` complements bit 0 of `is_valid`, the set of the invalid flag the whole lane; one bit of either is placed. -/
theorem fldPut_invalid_complement (lay : HdrLayout) (v : Word) :
    fldPut lay .invalid (1#32 - (v &&& 1#32)) = fldPut lay .invalid (1#32 - v) := by
  rw [one_sub_and_one]
  exact fldPut_and_mask lay .invalid _

theorem encodeHeader_eq_fldSets (lay : HdrLayout) (h : HdrRecord) :
    encodeHeader lay h = fldSets lay h HdrField.all (Vector.replicate 8 0) := by
  refine Vector.ext fun k hk => ?_
  interval_cases k <;>
    simp [encodeHeader, fldPut_invalid_complement, fldSets, HdrField.all, fldSet, HdrField.word, setValue, HdrRecord.lane]

/-- A bit of the encoding is a bit that some field's set places there. -/
theorem getLsbD_encodeHeader_iff {lay : HdrLayout} {h : HdrRecord} {k : Fin 8} {j : Nat} :
    (encodeHeader lay h)[k].getLsbD j = true ↔
      ∃ f, f.word = k ∧ (fldPut lay f (setValue h f)).getLsbD j = true := by
  rw [encodeHeader_eq_fldSets, getLsbD_fldSets_iff]
  simp [HdrField.mem_all]

/-- The low bit of `1 - v` is the complement of that of `v` (R39). -/
theorem getLsbD_zero_one_sub (v : Word) : (1#32 - v).getLsbD 0 = !v.getLsbD 0 := by
  rw [BitVec.getLsbD, BitVec.getLsbD, Nat.testBit_zero, Nat.testBit_zero, ← decide_not, decide_eq_decide]
  bv_omega

/-- In a legal layout a bit of the encoding that a field covers is that field's. -/
theorem getLsbD_encodeHeader_of_covers {lay : HdrLayout} (hwf : lay.wf = true) (h : HdrRecord) {f : HdrField} {j : Nat}
    (hj : j < f.width) :
    (encodeHeader lay h)[f.word].getLsbD (lay.shift f + j) = (setValue h f).getLsbD j := by
  have hfits := lay.fits hwf f
  have hcovers : lay.covers f (lay.shift f + j) := ⟨by omega, by omega⟩
  rw [Bool.eq_iff_iff, getLsbD_encodeHeader_iff]
  constructor
  · rintro ⟨g, hword, hbit⟩
    obtain ⟨-, hg, hbit⟩ := getLsbD_fldPut_iff.1 hbit
    obtain rfl := lay.eq_of_covers hwf hword hg hcovers
    rwa [Nat.add_sub_cancel_left] at hbit
  · intro hbit
    exact ⟨f, rfl, getLsbD_fldPut_iff.2 ⟨by omega, hcovers, by rwa [Nat.add_sub_cancel_left]⟩⟩

/-- What a field of the encoding reads is what its set wrote, masked. -/
theorem fldGet_encodeHeader {lay : HdrLayout} (hwf : lay.wf = true) (h : HdrRecord) (f : HdrField) :
    fldGet lay f (encodeHeader lay h) = setValue h f &&& mask f.width := by
  refine BitVec.eq_of_getLsbD_eq fun j _ => ?_
  rw [getLsbD_fldGet, BitVec.getLsbD_and, getLsbD_mask f.width_le, Bool.and_comm]
  by_cases hj : j < f.width
  · rw [getLsbD_encodeHeader_of_covers hwf h hj]
  · simp [hj]

/-- Decoding an encoded record gives each lane modulo `2^wi` (R153). -/
theorem toNat_lane_decode_encode {lay : HdrLayout} (hwf : lay.wf = true) (h : HdrRecord) (f : HdrField) :
    ((decodeHeader lay (encodeHeader lay h)).lane f).toNat = (h.lane f).toNat % 2 ^ f.width := by
  by_cases hf : f = .invalid
  · subst hf
    have hstored : (setValue h .invalid).toNat = (1 - h.isValid).toNat := rfl
    calc (decodeHeader lay (encodeHeader lay h)).isValid.toNat
      _ = 1 - (1 - h.isValid).toNat % 2 := by
        rw [toNat_isValid_decodeHeader, fldGet_encodeHeader hwf, toNat_and_mask (HdrField.width_le _), hstored]; rfl
      _ = h.isValid.toNat % 2 := by bv_omega
  · rw [lane_decodeHeader hf, fldGet_encodeHeader hwf, toNat_and_mask f.width_le, setValue_of_ne hf]

/-- Encoding a decoded image keeps the bits that some field covers and clears the others (R154). -/
theorem getLsbD_encode_decode_iff {lay : HdrLayout} {w : Image} {k : Fin 8} {j : Nat} (hj : j < 32) :
    (encodeHeader lay (decodeHeader lay w))[k].getLsbD j = true ↔
      (∃ f ∈ HdrField.all, f.word = k ∧ lay.covers f j) ∧ w[k].getLsbD j = true := by
  rw [getLsbD_encodeHeader_iff]
  simp only [getLsbD_fldPut_iff, setValue_decodeHeader, getLsbD_fldGet, Bool.and_eq_true, decide_eq_true_eq]
  constructor
  · rintro ⟨f, rfl, -, hcovers, -, hbit⟩
    rw [Nat.add_sub_cancel' hcovers.1] at hbit
    exact ⟨⟨f, f.mem_all, rfl, hcovers⟩, hbit⟩
  · rintro ⟨⟨f, -, rfl, hcovers⟩, hbit⟩
    exact ⟨f, rfl, hj, hcovers, by omega, by rwa [Nat.add_sub_cancel' hcovers.1]⟩

/-! ## The default layout (R110, log 15) -/

theorem encode_decode_vdif (w : Image) :
    encodeHeader .vdif (decodeHeader .vdif w) = w.set 1 (w[1] &&& 0x3FFFFFFF#32) := by
  refine Image.ext_bits fun k j hj => ?_
  rw [getLsbD_encode_decode_iff hj, HdrLayout.covers_vdif k j hj]
  have hmask : (0x3FFFFFFF#32).getLsbD j = decide (j < 30) := getLsbD_mask (n := 30) (by decide) j
  by_cases hk : k = 1
  · subst hk
    simp [hmask, and_comm]
  · have hset : (w.set 1 (w[1] &&& 0x3FFFFFFF#32))[k] = w[k] :=
      Vector.getElem_set_ne _ _ fun heq => hk (Fin.ext heq.symm)
    simp [hk, hset]

/-- The complement of one bit is one bit, so `HDR.ENC` may place it unmasked (R115). -/
theorem fldPut_vdif_invalid (v : Word) :
    fldPut .vdif .invalid (1 - (v &&& 1)) = (1#32 - (v &&& 1#32)) <<< 31 := by
  rw [one_sub_and_one]
  exact fldPut_invalid_complement .vdif v

/-! ## The sizes of a record (R148 to R152) -/

theorem payloadBytes_of_le {h : HdrRecord} (hle : 4 ≤ h.frameLen8.toNat) : payloadBytes h = some (frameBytes h - 32) :=
  if_pos hle

theorem payloadBytes_of_lt {h : HdrRecord} (hlt : h.frameLen8.toNat < 4) : payloadBytes h = none :=
  if_neg (Nat.not_le.2 hlt)

theorem payloadWords_of_le {h : HdrRecord} (hle : 4 ≤ h.frameLen8.toNat) :
    payloadWords h = some (2 * h.frameLen8.toNat - 8) := by
  rw [payloadWords, payloadBytes_of_le hle, Option.map_some, frameBytes]
  exact congrArg some (by omega)

theorem payloadWords_of_lt {h : HdrRecord} (hlt : h.frameLen8.toNat < 4) : payloadWords h = none := by
  rw [payloadWords, payloadBytes_of_lt hlt, Option.map_none]

/-! ## What the header commands do, and what they answer -/

theorem exec_hdrDec (s : State) :
    exec .hdrDec s = s.codec fun p r => { Lanes.zero p.slotWords with h := decodeHeader p.layout r.w } := rfl

theorem exec_hdrEnc (s : State) :
    exec .hdrEnc s = s.codec fun p r => { Lanes.zero p.slotWords with w := encodeHeader p.layout r.h } := rfl

section

variable {s : State} (hidle : s.portIdle = true)
include hidle

theorem exec_hdrGet_idle (f : HdrField) :
    exec (hdrGetInstr f) s = .next (s.respond .ok { Lanes.zero s.params.slotWords with
      v := fldGet s.params.layout f s.request.lanes.w }) := by
  rw [exec_hdrGet, hdrGet, State.codec_idle hidle]

theorem exec_hdrSet_idle (f : HdrField) :
    exec (hdrSetInstr f) s = .next (s.respond .ok { Lanes.zero s.params.slotWords with
      w := fldSet s.params.layout f s.request.lanes.v s.request.lanes.w }) := by
  rw [exec_hdrSet, hdrSet, State.codec_idle hidle]

theorem exec_hdrDec_idle :
    exec .hdrDec s = .next (s.respond .ok { Lanes.zero s.params.slotWords with
      h := decodeHeader s.params.layout s.request.lanes.w }) := by
  rw [exec_hdrDec, State.codec_idle hidle]

theorem exec_hdrEnc_idle :
    exec .hdrEnc s = .next (s.respond .ok { Lanes.zero s.params.slotWords with
      w := encodeHeader s.params.layout s.request.lanes.h }) := by
  rw [exec_hdrEnc, State.codec_idle hidle]

theorem ask_hdrGet (f : HdrField) (l : Lanes) :
    ask s (hdrGetInstr f) l = some { status := .ok, lanes := { Lanes.zero s.params.slotWords with
      v := fldGet s.params.layout f l.w } } :=
  ask_codec hidle (exec_hdrGet f) l

theorem ask_hdrSet (f : HdrField) (l : Lanes) :
    ask s (hdrSetInstr f) l = some { status := .ok, lanes := { Lanes.zero s.params.slotWords with
      w := fldSet s.params.layout f l.v l.w } } :=
  ask_codec hidle (exec_hdrSet f) l

theorem ask_hdrDec (l : Lanes) :
    ask s .hdrDec l = some { status := .ok, lanes := { Lanes.zero s.params.slotWords with
      h := decodeHeader s.params.layout l.w } } :=
  ask_codec hidle exec_hdrDec l

theorem ask_hdrEnc (l : Lanes) :
    ask s .hdrEnc l = some { status := .ok, lanes := { Lanes.zero s.params.slotWords with
      w := encodeHeader s.params.layout l.h } } :=
  ask_codec hidle exec_hdrEnc l

/-- The answers of the sets of a list of fields, each given the image before, make the image of the sets. -/
theorem setsFrom_eq_fldSets (h : HdrRecord) (order : List HdrField) (w : Image) :
    setsFrom s h order w = some (fldSets s.params.layout h order w) := by
  induction order generalizing w with
  | nil => rfl
  | cons f order ih =>
    rw [setsFrom, ask_hdrSet hidle]
    exact ih _

end

/-! ## The obligations -/

/-- Settles O8: the extract as a number. -/
theorem hdrGetAnswersStoredField : Obligations.HdrGetAnswersStoredField := by
  unfold Obligations.HdrGetAnswersStoredField
  intro f s hidle
  rw [exec_hdrGet_idle hidle, ← toNat_fldGet, BitVec.ofNat_toNat, BitVec.setWidth_eq]

/-- Settles O10: the OR-insert bit by bit. -/
theorem hdrSetOrsTheMaskedValue : Obligations.HdrSetOrsTheMaskedValue := by
  unfold Obligations.HdrSetOrsTheMaskedValue
  intro f s hidle
  refine ⟨_, exec_hdrSet_idle hidle f, fun k hk => fldSet_word_of_ne hk _ _, fun j hj => ?_⟩
  rw [fldSet_word_same, BitVec.getLsbD_or, getLsbD_fldPut, decide_eq_true hj, Bool.true_and]

/-- Settles O12: each lane of the decoding as a number. -/
theorem hdrDecAnswersTheRecord : Obligations.HdrDecAnswersTheRecord := by
  unfold Obligations.HdrDecAnswersTheRecord
  intro s hidle
  refine ⟨_, exec_hdrDec_idle hidle, ?valid, fun f hf => ?lane⟩
  case valid =>
    rw [toNat_isValid_decodeHeader, toNat_fldGet]
    rfl
  case lane => rw [lane_decodeHeader hf, toNat_fldGet]

/-- Settles O13: a bit of the encoding is the bit of the field that covers it, and there is at most one. -/
theorem hdrEncPlacesEveryField : Obligations.HdrEncPlacesEveryField := by
  unfold Obligations.HdrEncPlacesEveryField
  intro s hidle hwf
  refine ⟨_, exec_hdrEnc_idle hidle, ?invalid, fun f hf j hj => ?lane, fun k j hfree => ?free⟩
  case invalid =>
    exact (getLsbD_encodeHeader_of_covers hwf _ (f := .invalid) (j := 0) (by decide)).trans
      (getLsbD_zero_one_sub _)
  case lane => rw [getLsbD_encodeHeader_of_covers hwf _ hj, setValue_of_ne hf]
  case free =>
    rw [← Bool.not_eq_true, getLsbD_encodeHeader_iff]
    rintro ⟨f, hword, hbit⟩
    obtain ⟨-, hcovers, -⟩ := getLsbD_fldPut_iff.1 hbit
    exact hfree f hword hcovers

/-- Settles O15: decoding reads from each field what encoding placed there. -/
theorem decodeAfterEncodeIsTheRecord : Obligations.DecodeAfterEncodeIsTheRecord := by
  unfold Obligations.DecodeAfterEncodeIsTheRecord
  intro s l l' hidle hwf
  refine ⟨_, _, ask_hdrEnc hidle l, ask_hdrDec hidle _, fun hwidth => ?_, toNat_lane_decode_encode hwf l.h⟩
  refine HdrRecord.ext_lane fun f => BitVec.eq_of_toNat_eq ?_
  rw [toNat_lane_decode_encode hwf, Nat.mod_eq_of_lt (HdrRecord.inWidth_iff.1 hwidth f)]

/-- Settles O16: the bits that no field of the default layout covers are bits 31:30 of word 1. -/
theorem encodeAfterDecodeClearsTheUnassignedBits : Obligations.EncodeAfterDecodeClearsTheUnassignedBits := by
  unfold Obligations.EncodeAfterDecodeClearsTheUnassignedBits
  intro s l l' hidle hlayout
  refine ⟨_, ask_hdrDec hidle l, ?_⟩
  rw [ask_hdrEnc hidle, hlayout, encode_decode_vdif]

/-- Settles O17: get after set of the same and of another field. -/
theorem getAfterSetIsTheOr : Obligations.GetAfterSetIsTheOr := by
  unfold Obligations.GetAfterSetIsTheOr
  intro s f g l l' hidle hwf
  have hsame : (fldGet s.params.layout f (fldSet s.params.layout f l.v l.w)).toNat =
      (fldGet s.params.layout f l.w).toNat ||| l.v.toNat % 2 ^ f.width := by
    rw [fldGet_fldSet_same (HdrLayout.fits hwf f), BitVec.toNat_or, toNat_and_mask f.width_le]
  refine ⟨_, _, _, ask_hdrGet hidle g l, ask_hdrSet hidle f l, ask_hdrGet hidle g _, ?or, ?fresh,
    fun hne => fldGet_fldSet_of_ne hwf hne _ _⟩
  case or =>
    rintro rfl
    exact hsame
  case fresh =>
    rintro rfl hold
    rw [hsame, hold, BitVec.ofNat_eq_ofNat, BitVec.toNat_ofNat, Nat.zero_mod, Nat.zero_or]

/-- Settles O18: the two answers are the two orders of the same OR-inserts. -/
theorem setsOfDifferentFieldsCommute : Obligations.SetsOfDifferentFieldsCommute := by
  unfold Obligations.SetsOfDifferentFieldsCommute
  intro s f g l vf vg hidle _
  refine ⟨_, _, _, ask_hdrSet hidle f _, ask_hdrSet hidle g _, ask_hdrSet hidle g _, ?_⟩
  rw [ask_hdrSet hidle f, fldSet_comm]

/-- Settles O19: the order does not matter, since sets commute, and in the order of `FSEL` the sets are the encoding. -/
theorem setsInAnyOrderMakeTheEncoding : Obligations.SetsInAnyOrderMakeTheEncoding := by
  unfold Obligations.SetsInAnyOrderMakeTheEncoding
  intro s l order hidle hperm
  refine ⟨_, ?_, ask_hdrEnc hidle l⟩
  rw [setsFrom_eq_fldSets hidle, fldSets_perm hperm, encodeHeader_eq_fldSets]

/-- Settles O20: a decoded lane is the field's extract, and the flag's complement is complemented back. -/
theorem getAgreesWithDecode : Obligations.GetAgreesWithDecode := by
  unfold Obligations.GetAgreesWithDecode
  intro s f l hidle
  refine ⟨_, _, ask_hdrGet hidle f l, ask_hdrDec hidle l, fun hf => (lane_decodeHeader hf _ _).symm, ?_⟩
  rintro rfl
  have hlt := fldGet_invalid_lt s.params.layout l.w
  rw [toNat_isValid_decodeHeader]
  omega

/-- Settles O9: each field's extract with the mask and the shift of its row; an EDV field is its word. -/
theorem hdrGetUnderTheDefaultLayout : Obligations.HdrGetUnderTheDefaultLayout := by
  unfold Obligations.HdrGetUnderTheDefaultLayout
  intro s hidle hlayout w answers
  have get_eq : ∀ {f : HdrField} {v : Word}, fldGet .vdif f w = v → exec (hdrGetInstr f) s = answers v := by
    rintro f v rfl
    rw [exec_hdrGet_idle hidle, hlayout]
  exact ⟨get_eq (f := .invalid) rfl, get_eq (f := .legacy) rfl, get_eq (f := .seconds) rfl, get_eq (f := .refEpoch) rfl,
    get_eq (f := .frameNo) rfl, get_eq (f := .version) rfl, get_eq (f := .log2Chans) rfl, get_eq (f := .frameLen8) rfl,
    get_eq (f := .complex) rfl, get_eq (f := .bpsM1) rfl, get_eq (f := .threadId) rfl, get_eq (f := .stationId) rfl,
    get_eq (f := .edv0) (fldGet_of_whole rfl rfl w), get_eq (f := .edv1) (fldGet_of_whole rfl rfl w),
    get_eq (f := .edv2) (fldGet_of_whole rfl rfl w), get_eq (f := .edv3) (fldGet_of_whole rfl rfl w)⟩

/-- Settles O11: each field's OR-insert with the mask and the shift of its row; an EDV field takes the whole value. -/
theorem hdrSetUnderTheDefaultLayout : Obligations.HdrSetUnderTheDefaultLayout := by
  unfold Obligations.HdrSetUnderTheDefaultLayout
  intro s hidle hlayout w v answers
  have set_eq : ∀ {f : HdrField} {placed : Word}, fldPut .vdif f v = placed →
      exec (hdrSetInstr f) s = answers f.word placed := by
    rintro f placed rfl
    rw [exec_hdrSet_idle hidle, hlayout]
    rfl
  exact ⟨set_eq (f := .invalid) rfl, set_eq (f := .legacy) rfl, set_eq (f := .seconds) rfl, set_eq (f := .refEpoch) rfl,
    set_eq (f := .frameNo) rfl, set_eq (f := .version) rfl, set_eq (f := .log2Chans) rfl, set_eq (f := .frameLen8) rfl,
    set_eq (f := .complex) rfl, set_eq (f := .bpsM1) rfl, set_eq (f := .threadId) rfl, set_eq (f := .stationId) rfl,
    set_eq (f := .edv0) (fldPut_of_whole rfl rfl v), set_eq (f := .edv1) (fldPut_of_whole rfl rfl v),
    set_eq (f := .edv2) (fldPut_of_whole rfl rfl v), set_eq (f := .edv3) (fldPut_of_whole rfl rfl v)⟩

/-- Settles O14: each placed lane with the mask and the shift of its row; the flag's complement needs no mask, a field at
position 0 no shift, and an EDV field neither. -/
theorem hdrEncUnderTheDefaultLayout : Obligations.HdrEncUnderTheDefaultLayout := by
  unfold Obligations.HdrEncUnderTheDefaultLayout
  intro s hidle hlayout h
  have low (f : HdrField) (hshift : HdrLayout.vdif.shift f = 0) (v : Word) := fldPut_of_low hshift v
  have whole (f : HdrField) (hshift : HdrLayout.vdif.shift f = 0) (hwidth : f.width = 32) (v : Word) :=
    fldPut_of_whole hshift hwidth v
  rw [exec_hdrEnc_idle hidle, hlayout]
  simp only [encodeHeader, fldPut_vdif_invalid, low .seconds rfl, low .frameNo rfl, low .frameLen8 rfl,
    low .stationId rfl, whole .edv0 rfl rfl, whole .edv1 rfl rfl, whole .edv2 rfl rfl, whole .edv3 rfl rfl]
  rfl

/-- Settles O59: the sizes by whether the frame holds its header, and their bounds by the widths of the lanes. -/
theorem frameSizes : Obligations.FrameSizes := by
  unfold Obligations.FrameSizes
  intro h
  refine ⟨rfl, rfl, rfl, Nat.mul_mod_right 8 _, ?words, fun hle => ⟨payloadBytes_of_le hle, payloadWords_of_le hle⟩,
    fun hlt => ⟨payloadBytes_of_lt hlt, payloadWords_of_lt hlt⟩, fun hwidth => ?bounds⟩
  case words =>
    rw [frameWords, frameBytes]
    omega
  case bounds =>
    have hlog : h.log2Chans.toNat < 2 ^ 5 := HdrRecord.inWidth_iff.1 hwidth .log2Chans
    have hbps : h.bpsM1.toNat < 2 ^ 5 := HdrRecord.inWidth_iff.1 hwidth .bpsM1
    have hlen : h.frameLen8.toNat < 2 ^ 24 := HdrRecord.inWidth_iff.1 hwidth .frameLen8
    have hchannels : 2 ^ h.log2Chans.toNat ≤ 2 ^ 31 := Nat.pow_le_pow_right (by decide) (by omega)
    refine ⟨hchannels, Nat.succ_pos _, Nat.succ_le_of_lt hbps, ?_, fun n hn => ?_⟩
    · rw [frameBytes]
      omega
    · rcases Nat.lt_or_ge h.frameLen8.toNat 4 with hlt | hle
      · rw [payloadWords_of_lt hlt] at hn
        cases hn
      · rw [payloadWords_of_le hle] at hn
        cases hn
        omega

end Sys2Proof.Machine

/-! PROOFS. The payload codec on real samples: the lanes of an unpack, the bits of a pack, and the two as inverses of each
other up to a mask. -/

namespace Sys2Proof.Machine

/-! ## The slots of a word (R170) -/

theorem mul_realCount_le (b : Nat) : b * realCount b ≤ 32 := Nat.mul_div_le 32 b

theorem realCount_le (b : Nat) : realCount b ≤ 32 := Nat.div_le_self 32 b

/-- The bits the real samples of a depth occupy are the low `b * n(b)`. -/
theorem getLsbD_realMask (b j : Nat) : (realMask b).getLsbD j = decide (j < b * realCount b) :=
  getLsbD_mask (mul_realCount_le b) j

/-- Bit `j` of slot `k` lies below the end of the last slot. -/
theorem slot_bit_lt {b k j : Nat} (hk : k < realCount b) (hj : j < b) : b * k + j < b * realCount b :=
  calc b * k + j < b * (k + 1) := by rw [Nat.mul_succ]; exact Nat.add_lt_add_left hj _
    _ ≤ b * realCount b := Nat.mul_le_mul_left b hk

/-! ## Unpack (R171) -/

theorem getElem_unpackReal (b : Nat) (pw : Word) {k : Nat} (hk : k < 32) :
    (unpackReal b pw)[k] = if k < realCount b then sampleGet b (b * k) pw else 0 := by
  rw [unpackReal, Vector.getElem_ofFn]

/-- A sample lane as a number. -/
theorem toNat_unpackReal {b : Nat} (hb : b ≤ 32) (pw : Word) {k : Nat} (hk : k < 32) :
    (unpackReal b pw)[k].toNat = if k < realCount b then pw.toNat / 2 ^ (b * k) % 2 ^ b else 0 := by
  rw [getElem_unpackReal, apply_ite BitVec.toNat, toNat_sampleGet hb]
  rfl

/-- The lane of an occupied slot, bit by bit. -/
theorem getLsbD_unpackReal {b : Nat} (hb : b ≤ 32) (pw : Word) {k : Nat} (hk : k < realCount b) (j : Nat) :
    ((unpackReal b pw)[k]?.getD 0).getLsbD j = (decide (j < b) && pw.getLsbD (b * k + j)) := by
  have hlane : k < 32 := Nat.lt_of_lt_of_le hk (realCount_le b)
  rw [Vector.getElem?_eq_getElem hlane, Option.getD_some, getElem_unpackReal, if_pos hk, getLsbD_sampleGet hb]

/-! ## Pack (R172) -/

/-- The packed word bit by bit. -/
theorem getLsbD_packReal {b : Nat} (hpos : 0 < b) (hb : b ≤ 32) (s : Vector Word 32) (j : Nat) :
    (packReal b s).getLsbD j = (decide (j < b * realCount b) && (s[j / b]?.getD 0).getLsbD (j % b)) := by
  rw [packReal, getLsbD_orUpTo_samples hpos hb]
  by_cases hused : j < b * realCount b
  · rw [decide_eq_true (Nat.lt_of_lt_of_le hused (mul_realCount_le b)), Bool.true_and]
  · rw [decide_eq_false hused, Bool.false_and, Bool.and_false]

/-! ## The round trips (R173) -/

/-- Bit `j` goes to bit `j mod b` of lane `j / b` and comes back from there. -/
theorem packReal_unpackReal {b : Nat} (hpos : 0 < b) (hb : b ≤ 32) (pw : Word) :
    packReal b (unpackReal b pw) = pw &&& realMask b := by
  refine BitVec.eq_of_getLsbD_eq fun j _ => ?_
  rw [getLsbD_packReal hpos hb, BitVec.getLsbD_and, getLsbD_realMask, Bool.and_comm (pw.getLsbD j)]
  by_cases hused : j < b * realCount b
  · rw [getLsbD_unpackReal hb pw (Nat.div_lt_of_lt_mul hused), decide_eq_true (Nat.mod_lt j hpos), Bool.true_and,
      Nat.div_add_mod]
  · rw [decide_eq_false hused, Bool.false_and, Bool.false_and]

/-- Bit `j` of sample `k` goes to bit `b * k + j` of the word and comes back from there. -/
theorem unpackReal_packReal {b : Nat} (hpos : 0 < b) (hb : b ≤ 32) (s : Vector Word 32) {k : Nat} (hk : k < realCount b)
    (hlane : k < 32) : (unpackReal b (packReal b s))[k] = s[k] &&& mask b := by
  refine BitVec.eq_of_getLsbD_eq fun j _ => ?_
  rw [getElem_unpackReal, if_pos hk, getLsbD_sampleGet hb, getLsbD_packReal hpos hb, BitVec.getLsbD_and, getLsbD_mask hb,
    Bool.and_comm (s[k].getLsbD j)]
  by_cases hj : j < b
  · rw [decide_eq_true (slot_bit_lt hk hj), Bool.true_and, Nat.mul_add_div hpos, Nat.div_eq_of_lt hj, Nat.add_zero,
      Nat.mul_add_mod, Nat.mod_eq_of_lt hj, Vector.getElem?_eq_getElem hlane, Option.getD_some]
  · rw [decide_eq_false hj, Bool.false_and, Bool.false_and]

/-! ## What the real payload commands do, and what they answer -/

section

variable {b : Nat} {i : Instr} {s : State} (hidle : s.portIdle = true)
include hidle

theorem exec_unpackReal_idle (h : unpackRealInstr b = some i) :
    exec i s = .next (s.respond .ok { Lanes.zero s.params.slotWords with
      n := realCount b, s := unpackReal b s.request.lanes.pw }) := by
  rw [exec_unpackReal h, pldUnpackReal, State.codec_idle hidle]

theorem exec_packReal_idle (h : packRealInstr b = some i) :
    exec i s = .next (s.respond .ok { Lanes.zero s.params.slotWords with
      n := realCount b, pw := packReal b s.request.lanes.s }) := by
  rw [exec_packReal h, pldPackReal, State.codec_idle hidle]

theorem ask_unpackReal (h : unpackRealInstr b = some i) (l : Lanes) :
    ask s i l = some { status := .ok, lanes := { Lanes.zero s.params.slotWords with
      n := realCount b, s := unpackReal b l.pw } } :=
  ask_codec hidle (exec_unpackReal h) l

theorem ask_packReal (h : packRealInstr b = some i) (l : Lanes) :
    ask s i l = some { status := .ok, lanes := { Lanes.zero s.params.slotWords with
      n := realCount b, pw := packReal b l.s } } :=
  ask_codec hidle (exec_packReal h) l

end

/-! ## The obligations -/

/-- Settles O21: each lane as a number. -/
theorem unpackRealAnswersTheSamples : Obligations.UnpackRealAnswersTheSamples := by
  unfold Obligations.UnpackRealAnswersTheSamples
  intro b i s hunpack hidle
  obtain ⟨-, hb⟩ := unpackReal_depth hunpack
  exact ⟨_, exec_unpackReal_idle hidle hunpack, fun k hk => toNat_unpackReal hb _ hk⟩

/-- Settles O22: the packed word bit by bit. -/
theorem packRealPlacesTheSamples : Obligations.PackRealPlacesTheSamples := by
  unfold Obligations.PackRealPlacesTheSamples
  intro b i s hpack hidle
  obtain ⟨hpos, hb⟩ := packReal_depth hpack
  exact ⟨_, exec_packReal_idle hidle hpack, fun j _ => getLsbD_packReal hpos hb _ j⟩

/-- Settles O23: the two round trips as masks, each mask as a remainder. -/
theorem realRoundTrips : Obligations.RealRoundTrips := by
  unfold Obligations.RealRoundTrips
  intro b u p s l l' hunpack hpack hidle
  obtain ⟨hpos, hb⟩ := packReal_depth hpack
  refine ⟨⟨_, _, ask_unpackReal hidle hunpack l, ask_packReal hidle hpack _, ?word⟩,
    ⟨_, _, ask_packReal hidle hpack l, ask_unpackReal hidle hunpack _, fun k hlane hk => ?sample⟩⟩
  case word =>
    rw [packReal_unpackReal hpos hb, realMask, toNat_and_mask (mul_realCount_le b), realCount]
  case sample => rw [unpackReal_packReal hpos hb l.s hk hlane, toNat_and_mask hb]

end Sys2Proof.Machine

/-! PROOFS. The payload codec on complex samples: the two lanes of a pair as consecutive slots of the word, so that the bits of
a pack, the round trips and the comparison with the real pack are facts about slots. -/

namespace Sys2Proof.Machine

/-! ## The pairs as slots (R240) -/

/-- What slot `k` of the word holds: the in-phase lanes in the even slots, the quadrature lanes in the odd ones. -/
def pairSlot (i q : Vector Word 16) (k : Nat) : Word :=
  if k % 2 = 0 then i[k / 2]?.getD 0 else q[k / 2]?.getD 0

@[simp] theorem pairSlot_even (i q : Vector Word 16) (k : Nat) : pairSlot i q (2 * k) = i[k]?.getD 0 := by
  rw [pairSlot, if_pos (Nat.mul_mod_right 2 k), Nat.mul_div_cancel_left k Nat.two_pos]

@[simp] theorem pairSlot_odd (i q : Vector Word 16) (k : Nat) : pairSlot i q (2 * k + 1) = q[k]?.getD 0 := by
  rw [pairSlot, if_neg (by omega), show (2 * k + 1) / 2 = k by omega]

theorem evenSlot_position (b k : Nat) : 2 * b * k = b * (2 * k) := by ring

theorem oddSlot_position (b k : Nat) : 2 * b * k + b = b * (2 * k + 1) := by ring

theorem two_mul_complexCount_le (b : Nat) : 2 * complexCount b ≤ realCount b := Nat.mul_div_le _ 2

theorem complexCount_le (b : Nat) : complexCount b ≤ 16 := Nat.div_le_div_right (realCount_le b)

/-- The slots of the pairs lie within the word. -/
theorem mul_two_mul_complexCount_le (b : Nat) : b * (2 * complexCount b) ≤ 32 :=
  (Nat.mul_le_mul_left b (two_mul_complexCount_le b)).trans (mul_realCount_le b)

/-- Bit `j` of slot `k` lies below the end of `n` slots. -/
theorem bit_of_slot_lt {b k n j : Nat} (hk : k < n) (hj : j < b) : b * k + j < b * n := by
  rw [Nat.mul_comm b n]
  exact Nat.mul_add_lt_mul_of_lt_of_lt hk hj

/-- The bits the complex samples of a depth occupy are the low `2 * b * m(b)`. -/
theorem getLsbD_complexMask (b j : Nat) : (complexMask b).getLsbD j = decide (j < b * (2 * complexCount b)) := by
  rw [complexMask, evenSlot_position, getLsbD_mask (mul_two_mul_complexCount_le b)]

/-- The count of slots is odd at depth 6 only (R244). -/
theorem complexDepth_odd_iff {b : Nat} {i : Instr} (h : unpackComplexInstr b = some i) : 32 / b % 2 = 1 ↔ b = 6 := by
  rcases (isSome_unpackComplexInstr b).1 (Option.isSome_of_eq_some h) with hlisted | ⟨hlow, hhigh⟩
  · exact (by decide : ∀ d ∈ [1, 2, 3, 4, 6, 7, 8], 32 / d % 2 = 1 ↔ d = 6) b hlisted
  · have htwo : 32 / b = 2 := Nat.div_eq_of_lt_le (by omega) (by omega)
    omega

/-! ## ORs of words -/

theorem orUpTo_congr {f g : Nat → Word} {n : Nat} (h : ∀ k < n, f k = g k) : orUpTo f n = orUpTo g n := by
  induction n with
  | zero => rfl
  | succ n ih => rw [orUpTo, orUpTo, ih fun k hk => h k (Nat.lt_succ_of_lt hk), h n (Nat.lt_succ_self n)]

theorem orUpTo_pairs (f : Nat → Word) (n : Nat) :
    orUpTo (fun k => f (2 * k) ||| f (2 * k + 1)) n = orUpTo f (2 * n) := by
  induction n with
  | zero => rfl
  | succ n ih => rw [orUpTo, ih, Nat.mul_succ, orUpTo, orUpTo, BitVec.or_assoc]

@[simp] theorem samplePut_zero (b p : Nat) : samplePut b p 0 = 0 := by
  simp [samplePut]

/-! ## Unpack (R241) -/

theorem getElem_unpackI (b : Nat) (pw : Word) {k : Nat} (hk : k < 16) :
    (unpackI b pw)[k] = if k < complexCount b then sampleGet b (2 * b * k) pw else 0 := by
  rw [unpackI, Vector.getElem_ofFn]

theorem getElem_unpackQ (b : Nat) (pw : Word) {k : Nat} (hk : k < 16) :
    (unpackQ b pw)[k] = if k < complexCount b then sampleGet b (2 * b * k + b) pw else 0 := by
  rw [unpackQ, Vector.getElem_ofFn]

/-- An in-phase lane as a number. -/
theorem toNat_unpackI {b : Nat} (hb : b ≤ 32) (pw : Word) {k : Nat} (hk : k < 16) :
    (unpackI b pw)[k].toNat = if k < complexCount b then pw.toNat / 2 ^ (2 * b * k) % 2 ^ b else 0 := by
  rw [getElem_unpackI, apply_ite BitVec.toNat, toNat_sampleGet hb]
  rfl

/-- A quadrature lane as a number. -/
theorem toNat_unpackQ {b : Nat} (hb : b ≤ 32) (pw : Word) {k : Nat} (hk : k < 16) :
    (unpackQ b pw)[k].toNat = if k < complexCount b then pw.toNat / 2 ^ (2 * b * k + b) % 2 ^ b else 0 := by
  rw [getElem_unpackQ, apply_ite BitVec.toNat, toNat_sampleGet hb]
  rfl

/-- The unpacked pairs, by turns, are the slots of the word. -/
theorem pairSlot_unpack {b : Nat} (pw : Word) {k : Nat} (hk : k < 2 * complexCount b) :
    pairSlot (unpackI b pw) (unpackQ b pw) k = sampleGet b (b * k) pw := by
  obtain ⟨c, hc⟩ := Nat.even_or_odd' k
  have hpair : c < complexCount b := by omega
  have hlane : c < 16 := Nat.lt_of_lt_of_le hpair (complexCount_le b)
  rcases hc with rfl | rfl
  · rw [pairSlot_even, Vector.getElem?_eq_getElem hlane, Option.getD_some, getElem_unpackI, if_pos hpair,
      evenSlot_position]
  · rw [pairSlot_odd, Vector.getElem?_eq_getElem hlane, Option.getD_some, getElem_unpackQ, if_pos hpair,
      oddSlot_position]

/-- A slot reads its own bits only. -/
theorem sampleGet_congr {b : Nat} (hb : b ≤ 32) {p : Nat} {pw pw' : Word}
    (h : ∀ j < b, pw'.getLsbD (p + j) = pw.getLsbD (p + j)) : sampleGet b p pw' = sampleGet b p pw := by
  refine BitVec.eq_of_getLsbD_eq fun j _ => ?_
  rw [getLsbD_sampleGet hb, getLsbD_sampleGet hb]
  by_cases hj : j < b
  · rw [h j hj]
  · rw [decide_eq_false hj, Bool.false_and, Bool.false_and]

section

variable {b : Nat} (hb : b ≤ 32) {pw pw' : Word}
  (h : ∀ j < b * (2 * complexCount b), pw'.getLsbD j = pw.getLsbD j)
include hb h

/-- The slots of the pairs read the bits below the end of the last pair only. -/
theorem sampleGet_congr_of_slot {k : Nat} (hk : k < 2 * complexCount b) :
    sampleGet b (b * k) pw' = sampleGet b (b * k) pw :=
  sampleGet_congr hb fun _ hj => h _ (bit_of_slot_lt hk hj)

theorem unpackI_congr : unpackI b pw' = unpackI b pw := by
  refine Vector.ext fun k hk => ?_
  rw [getElem_unpackI, getElem_unpackI, evenSlot_position]
  split
  · exact sampleGet_congr_of_slot hb h (by omega)
  · rfl

theorem unpackQ_congr : unpackQ b pw' = unpackQ b pw := by
  refine Vector.ext fun k hk => ?_
  rw [getElem_unpackQ, getElem_unpackQ, oddSlot_position]
  split
  · exact sampleGet_congr_of_slot hb h (by omega)
  · rfl

end

/-! ## Pack (R242) -/

/-- The complex pack places the pairs, by turns, in the slots of the word. -/
theorem packComplex_eq_orUpTo_slots (b : Nat) (i q : Vector Word 16) :
    packComplex b i q = orUpTo (fun k => samplePut b (b * k) (pairSlot i q k)) (2 * complexCount b) := by
  rw [← orUpTo_pairs, packComplex]
  simp only [pairSlot_even, pairSlot_odd, ← evenSlot_position, ← oddSlot_position]

/-- The packed word bit by bit. -/
theorem getLsbD_packComplex {b : Nat} (hpos : 0 < b) (hb : b ≤ 32) (i q : Vector Word 16) (j : Nat) :
    (packComplex b i q).getLsbD j =
      (decide (j < b * (2 * complexCount b)) && (pairSlot i q (j / b)).getLsbD (j % b)) := by
  rw [packComplex_eq_orUpTo_slots, getLsbD_orUpTo_samples hpos hb]
  by_cases hused : j < b * (2 * complexCount b)
  · rw [decide_eq_true (Nat.lt_of_lt_of_le hused (mul_two_mul_complexCount_le b)), Bool.true_and]
  · rw [decide_eq_false hused, Bool.false_and, Bool.and_false]

/-- No bit above the last pair is set. -/
theorem packComplex_lt {b : Nat} (hpos : 0 < b) (hb : b ≤ 32) (i q : Vector Word 16) :
    (packComplex b i q).toNat < 2 ^ (b * (2 * complexCount b)) := by
  refine Nat.lt_pow_two_of_testBit _ fun j hj => ?_
  rw [BitVec.testBit_toNat, getLsbD_packComplex hpos hb, decide_eq_false (Nat.not_lt.2 hj), Bool.false_and]

/-- Slot `k` of the packed word is the value placed there, masked. -/
theorem sampleGet_packComplex {b : Nat} (hpos : 0 < b) (hb : b ≤ 32) (i q : Vector Word 16) {k : Nat}
    (hk : k < 2 * complexCount b) : sampleGet b (b * k) (packComplex b i q) = pairSlot i q k &&& mask b := by
  refine BitVec.eq_of_getLsbD_eq fun j _ => ?_
  rw [getLsbD_sampleGet hb, getLsbD_packComplex hpos hb, BitVec.getLsbD_and, getLsbD_mask hb, Bool.and_comm _ (decide (j < b))]
  by_cases hj : j < b
  · have hused : b * k + j < b * (2 * complexCount b) := bit_of_slot_lt hk hj
    rw [decide_eq_true hused, Bool.true_and, Nat.mul_add_div hpos, Nat.div_eq_of_lt hj, Nat.add_zero, Nat.mul_add_mod,
      Nat.mod_eq_of_lt hj]
  · rw [decide_eq_false hj, Bool.false_and, Bool.false_and]

/-! ## The round trips, and the real pack (R243) -/

/-- Bit `j` goes to bit `j mod b` of the lane of slot `j / b` and comes back from there. -/
theorem packComplex_unpack {b : Nat} (hpos : 0 < b) (hb : b ≤ 32) (pw : Word) :
    packComplex b (unpackI b pw) (unpackQ b pw) = pw &&& complexMask b := by
  refine BitVec.eq_of_getLsbD_eq fun j _ => ?_
  rw [getLsbD_packComplex hpos hb, BitVec.getLsbD_and, getLsbD_complexMask, Bool.and_comm (pw.getLsbD j)]
  by_cases hused : j < b * (2 * complexCount b)
  · rw [pairSlot_unpack pw (Nat.div_lt_of_lt_mul hused), getLsbD_sampleGet hb, decide_eq_true (Nat.mod_lt j hpos),
      Bool.true_and, Nat.div_add_mod]
  · rw [decide_eq_false hused, Bool.false_and, Bool.false_and]

theorem unpackI_packComplex {b : Nat} (hpos : 0 < b) (hb : b ≤ 32) (i q : Vector Word 16) {k : Nat}
    (hk : k < complexCount b) (hlane : k < 16) : (unpackI b (packComplex b i q))[k] = i[k] &&& mask b := by
  rw [getElem_unpackI, if_pos hk, evenSlot_position, sampleGet_packComplex hpos hb i q (by omega), pairSlot_even,
    Vector.getElem?_eq_getElem hlane, Option.getD_some]

theorem unpackQ_packComplex {b : Nat} (hpos : 0 < b) (hb : b ≤ 32) (i q : Vector Word 16) {k : Nat}
    (hk : k < complexCount b) (hlane : k < 16) : (unpackQ b (packComplex b i q))[k] = q[k] &&& mask b := by
  rw [getElem_unpackQ, if_pos hk, oddSlot_position, sampleGet_packComplex hpos hb i q (by omega), pairSlot_odd,
    Vector.getElem?_eq_getElem hlane, Option.getD_some]

/-- Sample lanes that interleave the pairs hold the slots of the pairs. -/
theorem interleaved_eq_pairSlot {b : Nat} {smp : Vector Word 32} {i q : Vector Word 16}
    (h : ∀ (k : Nat) (_ : k < 16), k < complexCount b → smp[2 * k] = i[k] ∧ smp[2 * k + 1] = q[k]) {k : Nat}
    (hk : k < 2 * complexCount b) : smp[k]?.getD 0 = pairSlot i q k := by
  obtain ⟨c, hc⟩ := Nat.even_or_odd' k
  have hpair : c < complexCount b := by omega
  have hlane : c < 16 := Nat.lt_of_lt_of_le hpair (complexCount_le b)
  obtain ⟨heven, hodd⟩ := h c hlane hpair
  rcases hc with rfl | rfl
  · rw [pairSlot_even, Vector.getElem?_eq_getElem hlane, Vector.getElem?_eq_getElem (by omega), heven]
  · rw [pairSlot_odd, Vector.getElem?_eq_getElem hlane, Vector.getElem?_eq_getElem (by omega), hodd]

/-- The real pack of interleaved samples is the complex pack: the slot past the last pair, where there is one, holds 0. -/
theorem packReal_eq_packComplex {b : Nat} {smp : Vector Word 32} {i q : Vector Word 16}
    (hpairs : ∀ k < 2 * complexCount b, smp[k]?.getD 0 = pairSlot i q k)
    (hlast : realCount b % 2 = 1 → smp[realCount b - 1]?.getD 0 = 0) : packReal b smp = packComplex b i q := by
  have hslots : orUpTo (fun k => samplePut b (b * k) (smp[k]?.getD 0)) (2 * complexCount b) = packComplex b i q := by
    rw [packComplex_eq_orUpTo_slots]
    exact orUpTo_congr fun k hk => by rw [hpairs k hk]
  have hcount : 2 * complexCount b + realCount b % 2 = realCount b := Nat.div_add_mod _ 2
  rcases Nat.mod_two_eq_zero_or_one (realCount b) with hparity | hparity
  · have heven : realCount b = 2 * complexCount b := by omega
    rw [packReal, heven, hslots]
  · have hodd : realCount b = 2 * complexCount b + 1 := by omega
    have hzero : smp[2 * complexCount b]?.getD 0 = 0 := by simpa [hodd] using hlast hparity
    rw [packReal, hodd, orUpTo, hslots, hzero, samplePut_zero]
    exact BitVec.or_zero

/-! ## What the complex payload commands do, and what they answer -/

section

variable {b : Nat} {i : Instr} {s : State} (hidle : s.portIdle = true)
include hidle

theorem exec_unpackComplex_idle (h : unpackComplexInstr b = some i) :
    exec i s = .next (s.respond .ok { Lanes.zero s.params.slotWords with
      n := complexCount b, i := unpackI b s.request.lanes.pw, q := unpackQ b s.request.lanes.pw }) := by
  rw [exec_unpackComplex h, pldUnpackComplex, State.codec_idle hidle]

theorem exec_packComplex_idle (h : packComplexInstr b = some i) :
    exec i s = .next (s.respond .ok { Lanes.zero s.params.slotWords with
      n := complexCount b, pw := packComplex b s.request.lanes.i s.request.lanes.q }) := by
  rw [exec_packComplex h, pldPackComplex, State.codec_idle hidle]

theorem ask_unpackComplex (h : unpackComplexInstr b = some i) (l : Lanes) :
    ask s i l = some { status := .ok, lanes := { Lanes.zero s.params.slotWords with
      n := complexCount b, i := unpackI b l.pw, q := unpackQ b l.pw } } :=
  ask_codec hidle (exec_unpackComplex h) l

theorem ask_packComplex (h : packComplexInstr b = some i) (l : Lanes) :
    ask s i l = some { status := .ok, lanes := { Lanes.zero s.params.slotWords with
      n := complexCount b, pw := packComplex b l.i l.q } } :=
  ask_codec hidle (exec_packComplex h) l

end

/-! ## The obligations -/

/-- Settles O24: each lane as a number. -/
theorem unpackComplexAnswersThePairs : Obligations.UnpackComplexAnswersThePairs := by
  unfold Obligations.UnpackComplexAnswersThePairs
  intro b i s hunpack hidle
  have hb : b ≤ 32 := (unpackComplex_depth hunpack).2.trans (by decide)
  exact ⟨_, _, exec_unpackComplex_idle hidle hunpack, fun k hk => ⟨toNat_unpackI hb _ hk, toNat_unpackQ hb _ hk⟩⟩

/-- Settles O25: the packed word bit by bit, the value of each slot by the parity of the slot. -/
theorem packComplexPlacesThePairs : Obligations.PackComplexPlacesThePairs := by
  unfold Obligations.PackComplexPlacesThePairs
  intro b i s hpack hidle
  obtain ⟨hpos, hb⟩ := packComplex_depth hpack
  refine ⟨_, exec_packComplex_idle hidle hpack, fun j _ => ?_⟩
  rw [getLsbD_packComplex hpos (hb.trans (by decide)), pairSlot, apply_ite (BitVec.getLsbD · (j % b)),
    ← evenSlot_position]
  rfl

/-- Settles O26: the two round trips as masks, each mask as a remainder, and the real pack of the same slots. -/
theorem complexRoundTrips : Obligations.ComplexRoundTrips := by
  unfold Obligations.ComplexRoundTrips
  intro b u p r s l l' hunpack hpack hreal hidle
  obtain ⟨hpos, hb⟩ := packReal_depth hreal
  refine ⟨⟨_, _, _, ask_unpackComplex hidle hunpack l, ask_packComplex hidle hpack _, ?word⟩,
    ⟨_, _, _, ask_packComplex hidle hpack l, ask_unpackComplex hidle hunpack _, fun k hlane hk => ⟨?inPhase, ?quadrature⟩,
      fun smp hpairs hlast => ?realPack⟩⟩
  case word =>
    have hbits : 2 * b * complexCount b ≤ 32 := evenSlot_position b _ ▸ mul_two_mul_complexCount_le b
    rw [packComplex_unpack hpos hb, complexMask, toNat_and_mask hbits]
    rfl
  case inPhase => rw [unpackI_packComplex hpos hb l.i l.q hk hlane, toNat_and_mask hb]
  case quadrature => rw [unpackQ_packComplex hpos hb l.i l.q hk hlane, toNat_and_mask hb]
  case realPack =>
    rw [ask_packReal hidle hreal, packReal_eq_packComplex (fun k hk => interleaved_eq_pairSlot hpairs hk) hlast]
    rfl

/-- Settles O27: the slots of the two pairs of depth 6 end at bit 24. -/
theorem fifthSlotIsForTheRealPath : Obligations.FifthSlotIsForTheRealPath := by
  unfold Obligations.FifthSlotIsForTheRealPath
  refine ⟨fun b i h => complexDepth_odd_iff h, fun s l hidle => ⟨?unpackC, ?unpackR, ?packC⟩⟩
  case unpackC =>
    refine ⟨unpackI 6 l.pw, unpackQ 6 l.pw, fun pw' hagree => ?_⟩
    have hsix : 6 ≤ 32 := by decide
    rw [ask_unpackComplex hidle (b := 6) rfl, unpackI_congr hsix hagree, unpackQ_congr hsix hagree]
    rfl
  case unpackR =>
    exact ⟨unpackReal 6 l.pw, ask_unpackReal hidle rfl l, toNat_unpackReal (by decide) l.pw (by decide)⟩
  case packC =>
    exact ⟨packComplex 6 l.i l.q, ask_packComplex hidle rfl l, packComplex_lt (by decide) (by decide) l.i l.q⟩

end Sys2Proof.Machine

/-! PROOFS. The ring buffer: the steps of `RB.PUSH` and `RB.POP` as record updates (R302 to R315), the invariant and the queue
(R317, R318), progress and bounded transactions (R316, R356), and whole transactions (R301, R309). -/

namespace Sys2Proof.Machine

/-! ## The step each phase names -/

section Phases

variable {s : State}

theorem exec_rbPush_p1 (hport : s.port = .prod) (hphase : s.prod.phase = .p1) :
    exec .rbPush s = .next (pushLoadHead s) := by
  simp only [exec, execRbPush, hport, hphase]

theorem exec_rbPush_p2 (hport : s.port = .prod) (hphase : s.prod.phase = .p2) :
    exec .rbPush s = .next (pushLoadTail s) := by
  simp only [exec, execRbPush, hport, hphase]

theorem exec_rbPush_p3 (hport : s.port = .prod) (hphase : s.prod.phase = .p3) :
    exec .rbPush s = .next (pushTest s) := by
  simp only [exec, execRbPush, hport, hphase]

theorem exec_rbPush_p5 (hport : s.port = .prod) (hphase : s.prod.phase = .p5) :
    exec .rbPush s = .next (pushPublish s) := by
  simp only [exec, execRbPush, hport, hphase]

theorem exec_rbPop_c1 (hport : s.port = .cons) (hphase : s.cons.phase = .c1) :
    exec .rbPop s = .next (popLoadHead s) := by
  simp only [exec, execRbPop, hport, hphase]

theorem exec_rbPop_c2 (hport : s.port = .cons) (hphase : s.cons.phase = .c2) :
    exec .rbPop s = .next (popLoadTail s) := by
  simp only [exec, execRbPop, hport, hphase]

theorem exec_rbPop_c3 (hport : s.port = .cons) (hphase : s.cons.phase = .c3) :
    exec .rbPop s = .next (popTest s) := by
  simp only [exec, execRbPop, hport, hphase]

theorem exec_rbPop_c5 (hport : s.port = .cons) (hphase : s.cons.phase = .c5) :
    exec .rbPop s = .next (popRelease s) := by
  simp only [exec, execRbPop, hport, hphase]

/-- The slot of a position below `2C` is inside slot memory (R27, R300). -/
theorem State.slotInside_of_lt {p : Nat} (h : p < 2 * s.params.capacity) : s.slotInside (s.slotBase p) = true := by
  have hposition : s.position p = p := Nat.mod_eq_of_lt h
  rw [← hposition]
  exact State.slotInside_position (by omega) p

theorem pushCopyIn_of_inside (h : s.slotInside (s.slotBase s.prod.t) = true) : pushCopyIn s = .next (pushCopy s) := by
  rw [pushCopyIn, if_pos h]

theorem popCopyOut_of_inside (h : s.slotInside (s.slotBase s.cons.h) = true) : popCopyOut s = .next (popCopy s) := by
  rw [popCopyOut, if_pos h]

/-- P4 with a position below `2C` (R306). -/
theorem exec_rbPush_copyIn (hport : s.port = .prod) (hphase : s.prod.phase = .p4)
    (ht : s.prod.t < 2 * s.params.capacity) : exec .rbPush s = .next (pushCopy s) := by
  rw [exec_rbPush_p4 hport hphase, pushCopyIn_of_inside (State.slotInside_of_lt ht)]

/-- C4 with a position below `2C` (R314). -/
theorem exec_rbPop_copyOut (hport : s.port = .cons) (hphase : s.cons.phase = .c4)
    (hh : s.cons.h < 2 * s.params.capacity) : exec .rbPop s = .next (popCopy s) := by
  rw [exec_rbPop_c4 hport hphase, popCopyOut_of_inside (State.slotInside_of_lt hh)]

/-! ## The lanes of the port that acts -/

theorem State.respond_prod_eq (hport : s.port = .prod) (st : Status) (l : Lanes) :
    s.respond st l = { s with prodIO := { s.prodIO with rsp := some { status := st, lanes := l } } } := by
  simp only [State.respond, State.setIO, State.io, hport]

theorem State.respond_cons_eq (hport : s.port = .cons) (st : Status) (l : Lanes) :
    s.respond st l = { s with consIO := { s.consIO with rsp := some { status := st, lanes := l } } } := by
  simp only [State.respond, State.setIO, State.io, hport]

theorem State.awaitResponse_prod_eq (hport : s.port = .prod) :
    s.awaitResponse = { s with prodIO := { s.prodIO with rsp := none } } := by
  simp only [State.awaitResponse, State.setIO, State.io, hport]

theorem State.awaitResponse_cons_eq (hport : s.port = .cons) :
    s.awaitResponse = { s with consIO := { s.consIO with rsp := none } } := by
  simp only [State.awaitResponse, State.setIO, State.io, hport]

theorem pushPublish_prodIO (hport : s.port = .prod) :
    (pushPublish s).prodIO = { s.prodIO with rsp := some { status := .ok, lanes := s.zeroLanes } } := by
  rw [pushPublish, State.respond_prod_eq hport]

end Phases

/-! ## Loads of the other agent's cursor -/

/-- With stale views every allowed count is loaded in some turn (R62). -/
theorem State.loadOther_draw {s : State} {seen stored k : Nat} (hstale : s.params.staleViews = true) (hlo : seen ≤ k)
    (hhi : k ≤ stored) : { s with draw := k - seen }.loadOther seen stored = k := by
  have hmod : (k - seen) % (stored - seen + 1) = k - seen := Nat.mod_eq_of_lt (by omega)
  simp only [State.loadOther, hstale, Bool.true_and, decide_eq_true_eq, hmod]
  split <;> omega

/-- What a load can choose (R62, R303, R312). -/
theorem State.loadOther_allowed (s : State) {seen stored : Nat} (h : seen ≤ stored) :
    seen ≤ s.loadOther seen stored ∧ s.loadOther seen stored ≤ stored ∧
      (s.params.staleViews = false → s.loadOther seen stored = stored) := by
  obtain ⟨hlo, hhi⟩ := s.loadOther_bounds h
  exact ⟨hlo, hhi, fun hstrong => State.loadOther_strong hstrong seen stored⟩

/-! ## The tests -/

/-- P3 ends the push just when the ring is tested full (R305). -/
theorem pushTest_idle_iff {s : State} :
    (pushTest s).prod.phase = .idle ↔ isFull s.params.capacity s.prod.h s.prod.t = true := by
  unfold pushTest
  split <;> simp [*]

/-- C3 ends the pop just when the ring is tested empty (R313). -/
theorem popTest_idle_iff {s : State} : (popTest s).cons.phase = .idle ↔ isEmpty s.cons.h s.cons.t = true := by
  unfold popTest
  split <;> simp [*]

/-! ## Who writes the cursors -/

@[simp] theorem pushTest_tail (s : State) : (pushTest s).tail = s.tail := by
  unfold pushTest; split <;> rfl

@[simp] theorem popTest_head (s : State) : (popTest s).head = s.head := by
  unfold popTest; split <;> rfl

/-- Only P5 writes `tail` (R307). -/
theorem ProdStep.tail_eq {s t : State} (h : ProdStep s t) (hne : s.prod.phase ≠ .p5) : t.tail = s.tail := by
  cases h with
  | publish hphase => exact absurd hphase hne
  | test => exact pushTest_tail s
  | _ => rfl

/-- Only C5 writes `head` (R315). -/
theorem ConsStep.head_eq {s t : State} (h : ConsStep s t) (hne : s.cons.phase ≠ .c5) : t.head = s.head := by
  cases h with
  | release hphase => exact absurd hphase hne
  | test => exact popTest_head s
  | _ => rfl

/-! ## The obligations on single steps -/

/-- Settles O44: what the turn of each agent can do keeps the invariant, and so does reset. -/
theorem stepKeepsTheRingInvariant : Obligations.StepKeepsTheRingInvariant := by
  unfold Obligations.StepKeepsTheRingInvariant
  intro s t hinv hstep
  exact hinv.step hstep

/-- Settles O46: P5 appends to the queue and C5 removes its head, and in every other phase an agent's turn leaves the queue
alone. -/
theorem ringIsAFifoQueue : Obligations.RingIsAFifoQueue := by
  unfold Obligations.RingIsAFifoQueue
  intro s t hinv hstep
  rcases step_cases hstep with ⟨hturn, rfl⟩ | ⟨hturn, rfl⟩ | ⟨p, draw, hturn, -⟩
  · rw [hturn]
  · rw [hturn]
    rfl
  · have hinv' := hinv.takeTurn p draw
    rw [hturn]
    cases p with
    | prod =>
      have hprod := prodStep_of_step hturn hstep
      show if s.prod.phase = .p5 then _ else _
      split
      case isTrue hphase =>
        rw [hprod.eq_pushPublish hphase]
        exact ⟨hinv'.queue_pushPublish hphase, by rw [pushPublish_prodIO rfl]; rfl⟩
      case isFalse hphase => exact hprod.queue_eq hinv' rfl hphase
    | cons =>
      have hcons := consStep_of_step hturn hstep
      show if s.cons.phase = .c5 then _ else _
      split
      case isTrue hphase =>
        rw [hcons.eq_popRelease hphase]
        exact ⟨hinv'.queue_popRelease hphase, hinv'.rsp_popRelease rfl hphase⟩
      case isFalse hphase => exact hcons.queue_eq rfl hphase

/-- Settles O36: P4 writes the words of the latch from the first address of the slot on. -/
theorem pushCopiesIntoTheSlot : Obligations.PushCopiesIntoTheSlot := by
  unfold Obligations.PushCopiesIntoTheSlot
  intro s hwf hport hphase ht hlen
  have hposition : s.prod.t = s.position s.prod.t := (Nat.mod_eq_of_lt ht).symm
  have hread := read?_pushCopy (Params.capacity_pos hwf) hposition hlen
  rw [slotOf_eq_mod ht]
  refine ⟨(pushCopy s).mem, exec_rbPush_copyIn hport hphase ht, fun j hj => ?words, fun a ha => ?others,
    fun hmem => Memory.wf_writeWords _ hmem _⟩
  case words =>
    have hd : j < s.prod.d.length := hlen ▸ hj
    rw [State.readWord, hread, if_pos ⟨Nat.le_add_right _ _, Nat.add_lt_add_left hj _⟩, Nat.add_sub_cancel_left,
      List.getElem?_eq_getElem hd, Option.getD_some, Option.getD_some]
  case others =>
    rw [State.readWord, hread, if_neg (by omega), State.readWord]

/-- Settles O37: P5 as a record update; only the turn of the producer at P5 writes `tail` and `npush`. -/
theorem pushPublishesTheSlot : Obligations.PushPublishesTheSlot := by
  unfold Obligations.PushPublishesTheSlot
  refine ⟨fun s hport hphase ht => ?publish, fun s t hstep hreset hnot => ?others⟩
  case publish =>
    rw [exec_rbPush_p5 hport hphase, pushPublish, State.respond_prod_eq hport, inc_eq_mod ht]
    rfl
  case others =>
    rcases step_cases hstep with ⟨-, rfl⟩ | ⟨hturn, -⟩ | ⟨p, draw, hturn, -⟩
    · exact ⟨rfl, rfl⟩
    · exact absurd hturn hreset
    · cases p with
      | prod =>
        have hprod := prodStep_of_step hturn hstep
        have hphase : s.prod.phase ≠ .p5 := fun hphase => hnot ⟨hphase, draw, hturn⟩
        exact ⟨hprod.tail_eq hphase, hprod.npush_eq hphase⟩
      | cons =>
        have hframe := (consStep_of_step hturn hstep).frame rfl
        exact ⟨hframe.tail, hframe.npush⟩

/-- Settles O42: C5 as a record update; only the turn of the consumer at C5 writes `head` and `npop`. -/
theorem popReleasesTheSlot : Obligations.PopReleasesTheSlot := by
  unfold Obligations.PopReleasesTheSlot
  refine ⟨fun s hport hphase hh hlen => ?release, fun s t hstep hreset hnot => ?others⟩
  case release =>
    rw [exec_rbPop_c5 hport hphase, popRelease, State.respond_cons_eq hport, inc_eq_mod hh, slotLanes_eq hlen]
    rfl
  case others =>
    rcases step_cases hstep with ⟨-, rfl⟩ | ⟨hturn, -⟩ | ⟨p, draw, hturn, -⟩
    · exact ⟨rfl, rfl⟩
    · exact absurd hturn hreset
    · cases p with
      | prod =>
        have hframe := (prodStep_of_step hturn hstep).frame rfl
        exact ⟨hframe.head, hframe.npop⟩
      | cons =>
        have hcons := consStep_of_step hturn hstep
        have hphase : s.cons.phase ≠ .c5 := fun hphase => hnot ⟨hphase, draw, hturn⟩
        exact ⟨hcons.head_eq hphase, hcons.npop_eq hphase⟩

/-- Settles O50: the tests of P3 and C3 as `State.Inv.isFull_iff` and `State.Inv.isEmpty_iff` give them; the views lie between
the counters, so the newest view decides where the ring is full or empty. -/
theorem fullAndEmptyFollowTheViews : Obligations.FullAndEmptyFollowTheViews := by
  unfold Obligations.FullAndEmptyFollowTheViews
  constructor
  case left =>
    intro s hinv hport hphase
    have hfull : (pushTest s).prod.phase = .idle ↔ s.npush = s.vh + s.params.capacity :=
      pushTest_idle_iff.trans (hinv.isFull_iff hphase)
    refine ⟨_, exec_rbPush_p3 hport hphase, hfull, fun hend => ?_, fun hqueue => hfull.2 ?_⟩
    · obtain ⟨hlen, -, -⟩ := hinv.at_p3 hphase
      rw [pushTest_full (pushTest_idle_iff.1 hend), State.respond_prod_eq hport]
      exact ⟨_, rfl, slotLanes_eq hlen⟩
    · obtain ⟨hle, -⟩ := hinv.counters
      have hvh := hinv.vh_le
      have hroom := hinv.room
      rw [s.length_queue] at hqueue
      omega
  case right =>
    intro s hinv hport hphase
    have hempty : (popTest s).cons.phase = .idle ↔ s.npop = s.vt :=
      popTest_idle_iff.trans (hinv.isEmpty_iff hphase)
    refine ⟨_, exec_rbPop_c3 hport hphase, hempty.trans eq_comm, fun hend => ?_, fun hqueue => hempty.2 ?_⟩
    · rw [popTest_empty (popTest_idle_iff.1 hend), State.respond_cons_eq hport]
      exact ⟨_, rfl⟩
    · have hpop := hinv.pop_le_vt
      have hvt := hinv.vt_le
      have hlength := s.length_queue
      rw [hqueue, List.length_nil] at hlength
      omega

/-- Settles O32: P0 as a record update. -/
theorem pushAcceptLatchesTheWords : Obligations.PushAcceptLatchesTheWords := by
  unfold Obligations.PushAcceptLatchesTheWords
  intro s hport hphase hlen
  rw [exec_rbPush_idle hport hphase, pushAccept_of_length_eq hlen, pushLatch, State.awaitResponse_prod_eq hport]

/-- Settles O33: the load is of an allowed count, and the free number `k - vh` makes it load `k`. -/
theorem pushLoadsHead : Obligations.PushLoadsHead := by
  unfold Obligations.PushLoadsHead
  intro s hport hphase hle
  obtain ⟨hlo, hhi, hstrong⟩ := s.loadOther_allowed hle
  refine ⟨⟨_, hlo, hhi, hstrong, exec_rbPush_p1 hport hphase⟩, fun hstale k hk hk' => ⟨k - s.vh, ?_⟩⟩
  rw [exec_rbPush_p1 (s := { s with draw := k - s.vh }) hport hphase, pushLoadHead, State.loadOther_draw hstale hk hk']
  rfl

/-- Settles O34: P2 and C1 load the cursor itself. -/
theorem ownCursorLoadsAreCurrent : Obligations.OwnCursorLoadsAreCurrent := by
  unfold Obligations.OwnCursorLoadsAreCurrent
  exact ⟨fun _ => exec_rbPush_p2, fun _ => exec_rbPop_c1⟩

/-- Settles O35: the two branches of the full test. -/
theorem pushFullTest : Obligations.PushFullTest := by
  unfold Obligations.PushFullTest
  intro s hport hphase hlen
  rw [exec_rbPush_p3 hport hphase]
  refine ⟨fun hfull => ?full, fun hroom => ?room⟩
  case full =>
    rw [pushTest_full (beq_iff_eq.2 hfull), State.respond_prod_eq hport, slotLanes_eq hlen]
    rfl
  case room => rw [pushTest_room (beq_eq_false_iff_ne.2 hroom)]

/-- Settles O38: C0 as a record update. -/
theorem popAcceptReadsNoLane : Obligations.PopAcceptReadsNoLane := by
  unfold Obligations.PopAcceptReadsNoLane
  intro s hport hphase
  rw [exec_rbPop_idle hport hphase, popAccept, State.awaitResponse_cons_eq hport]

/-- Settles O39: the load is of an allowed count, and the free number `k - vt` makes it load `k`. -/
theorem popLoadsTail : Obligations.PopLoadsTail := by
  unfold Obligations.PopLoadsTail
  intro s hport hphase hle
  obtain ⟨hlo, hhi, hstrong⟩ := s.loadOther_allowed hle
  refine ⟨⟨_, hlo, hhi, hstrong, exec_rbPop_c2 hport hphase⟩, fun hstale k hk hk' => ⟨k - s.vt, ?_⟩⟩
  rw [exec_rbPop_c2 (s := { s with draw := k - s.vt }) hport hphase, popLoadTail, State.loadOther_draw hstale hk hk']
  rfl

/-- Settles O40: the two branches of the empty test. -/
theorem popEmptyTest : Obligations.PopEmptyTest := by
  unfold Obligations.PopEmptyTest
  intro s hport hphase
  rw [exec_rbPop_c3 hport hphase]
  refine ⟨fun hempty => ?empty, fun helement => ?element⟩
  case empty =>
    rw [popTest_empty (beq_iff_eq.2 hempty), State.respond_cons_eq hport]
    rfl
  case element => rw [popTest_element (beq_eq_false_iff_ne.2 helement)]

/-- Settles O41: C4 latches the words read from the first address of the slot on. -/
theorem popCopiesOutOfTheSlot : Obligations.PopCopiesOutOfTheSlot := by
  unfold Obligations.PopCopiesOutOfTheSlot
  intro s hwf hport hphase hh
  refine ⟨_, exec_rbPop_copyOut hport hphase hh, s.length_readWords _ _, fun j hj => ?_⟩
  rw [State.readWords, List.getElem?_map, List.getElem?_range hj, Option.map_some, State.slotBase]

/-! ## Every turn has a next state -/

/-- On an idle port every command but the port's own ring command answers: a codec command `OK`, the other port's ring command
`ILLEGAL` (R92, R341). -/
theorem exec_other_completes {i : Instr} {s : State} (hidle : s.portIdle = true) (hother : i ≠ s.inFlight) :
    completes (exec i s) := by
  rcases codec_or_ring i with hcodec | rfl | rfl
  · obtain ⟨f, hf⟩ := exec_codec hcodec
    exact ⟨_, by rw [hf, State.codec_idle hidle]⟩
  · cases hport : s.port with
    | prod => exact absurd (by rw [State.inFlight, hport]) hother
    | cons => exact ⟨_, exec_rbPush_cons_idle hport hidle⟩
  · cases hport : s.port with
    | prod => exact ⟨_, exec_rbPop_prod_idle hport hidle⟩
    | cons => exact absurd (by rw [State.inFlight, hport]) hother

theorem State.position_lt {s : State} (hcap : 1 ≤ s.params.capacity) (k : Nat) :
    s.position k < 2 * s.params.capacity :=
  Nat.mod_lt k (by omega)

/-- From P1 to P5 a push has a next step: the slot of P4 is inside slot memory (R316). -/
theorem State.Inv.push_completes {s : State} (hinv : s.Inv) (hport : s.port = .prod) (hbusy : s.prod.phase ≠ .idle) :
    completes (exec .rbPush s) := by
  cases hphase : s.prod.phase with
  | idle => exact absurd hphase hbusy
  | p1 => exact ⟨_, exec_rbPush_p1 hport hphase⟩
  | p2 => exact ⟨_, exec_rbPush_p2 hport hphase⟩
  | p3 => exact ⟨_, exec_rbPush_p3 hport hphase⟩
  | p4 =>
    obtain ⟨-, ht, -⟩ := hinv.at_p4 hphase
    exact ⟨_, exec_rbPush_copyIn hport hphase (ht ▸ State.position_lt (Params.capacity_pos hinv.params) _)⟩
  | p5 => exact ⟨_, exec_rbPush_p5 hport hphase⟩

/-- From C1 to C5 a pop has a next step: the slot of C4 is inside slot memory (R316). -/
theorem State.Inv.pop_completes {s : State} (hinv : s.Inv) (hport : s.port = .cons) (hbusy : s.cons.phase ≠ .idle) :
    completes (exec .rbPop s) := by
  cases hphase : s.cons.phase with
  | idle => exact absurd hphase hbusy
  | c1 => exact ⟨_, exec_rbPop_c1 hport hphase⟩
  | c2 => exact ⟨_, exec_rbPop_c2 hport hphase⟩
  | c3 => exact ⟨_, exec_rbPop_c3 hport hphase⟩
  | c4 =>
    obtain ⟨hh, -⟩ := hinv.at_c4 hphase
    exact ⟨_, exec_rbPop_copyOut hport hphase (hh ▸ State.position_lt (Params.capacity_pos hinv.params) _)⟩
  | c5 => exact ⟨_, exec_rbPop_c5 hport hphase⟩

/-- The turn of an idle port has a next state, where the port's own ring command can begin if it is presented. -/
theorem stepPort_idle_completes {s : State} (hidle : s.portIdle = true)
    (hown : ∀ r rs, s.io.pending = r :: rs → decode r.cmd = .ok s.inFlight → completes (exec s.inFlight (s.taken r rs))) :
    completes (stepPort s) := by
  cases hpending : s.io.pending with
  | nil => exact ⟨_, stepPort_of_no_request hidle hpending⟩
  | cons r rs =>
    cases hdecode : decode r.cmd with
    | error e =>
      rw [stepPort, if_pos hidle, State.fetch_of_pending hpending]
      exact ⟨(s.taken r rs).respondIllegal, by simp only [State.request_taken, hdecode]⟩
    | ok i =>
      rw [stepPort_of_command hidle hpending hdecode]
      by_cases hi : i = s.inFlight
      · subst hi
        exact hown r rs hpending hdecode
      · exact exec_other_completes (s := s.taken r rs) hidle hi

/-- A turn of the producer has a next state: what the master presents as a push has `L` words. -/
theorem State.Inv.prod_turn_completes {s : State} (hinv : s.Inv) (henv : s.envOk) (hport : s.port = .prod) :
    completes (stepPort s) := by
  have hown : s.inFlight = .rbPush := by rw [State.inFlight, hport]
  by_cases hidle : s.portIdle = true
  · refine stepPort_idle_completes hidle fun r rs hpending hdecode => ?_
    rw [hown] at hdecode ⊢
    have hprodIO : r ∈ s.prodIO.pending := by
      have hio : s.io = s.prodIO := by rw [State.io, hport]
      rw [← hio, hpending]
      exact List.mem_cons_self
    have hwf : r.lanes.d.length = s.params.slotWords :=
      Request.wf_iff.1 (henv r hprodIO (eq_encode_of_decode hdecode))
    have hexec : exec .rbPush (s.taken r rs) = pushAccept (s.taken r rs) :=
      exec_rbPush_idle hport ((State.portIdle_prod hport).1 hidle)
    exact ⟨_, hexec.trans (pushAccept_of_length_eq (by rw [State.request_taken]; exact hwf))⟩
  · rw [stepPort_of_busy hidle, hown]
    exact hinv.push_completes hport (mt (State.portIdle_prod hport).2 hidle)

/-- A turn of the consumer has a next state. -/
theorem State.Inv.cons_turn_completes {s : State} (hinv : s.Inv) (hport : s.port = .cons) : completes (stepPort s) := by
  have hown : s.inFlight = .rbPop := by rw [State.inFlight, hport]
  by_cases hidle : s.portIdle = true
  · refine stepPort_idle_completes hidle fun r rs _ _ => ?_
    rw [hown]
    exact ⟨_, exec_rbPop_idle hport ((State.portIdle_cons hport).1 hidle)⟩
  · rw [stepPort_of_busy hidle, hown]
    exact hinv.pop_completes hport (mt (State.portIdle_cons hport).2 hidle)

/-- No state with the invariant is stuck (R316). -/
theorem State.Inv.step_completes {s : State} (hinv : s.Inv) (henv : s.envOk) : completes (Machine.step s) := by
  cases hturn : s.nextTurn with
  | none => exact ⟨s, step_of_no_turn hturn⟩
  | some turn =>
    cases turn with
    | reset => exact ⟨s.applyReset s.sched.tail, by rw [Machine.step, hturn]⟩
    | move p draw =>
      rw [step_of_move hturn]
      cases p with
      | prod => exact (hinv.takeTurn .prod draw).prod_turn_completes henv rfl
      | cons => exact (hinv.takeTurn .cons draw).cons_turn_completes rfl

/-! ## What the masters still have to present -/

theorem State.pending_respond (s : State) (st : Status) (l : Lanes) : (s.respond st l).io.pending = s.io.pending := by
  rw [State.io_respond]

theorem State.pending_awaitResponse (s : State) : s.awaitResponse.io.pending = s.io.pending := by
  rw [State.io_awaitResponse]

theorem exec_rbPush_pending {s t : State} (h : exec .rbPush s = .next t) : t.io.pending = s.io.pending := by
  rcases push_cases h with ⟨-, -, rfl⟩ | ⟨-, ⟨-, -, rfl⟩ | ⟨-, rfl⟩ | ⟨-, rfl⟩ | ⟨-, rfl⟩ | ⟨-, -, rfl⟩ | ⟨-, rfl⟩⟩
  · exact s.pending_respond _ _
  · exact s.pending_awaitResponse
  · rfl
  · rfl
  · unfold pushTest
    split
    · exact s.pending_respond _ _
    · rfl
  · rfl
  · exact s.pending_respond _ _

theorem exec_rbPop_pending {s t : State} (h : exec .rbPop s = .next t) : t.io.pending = s.io.pending := by
  rcases pop_cases h with ⟨-, -, rfl⟩ | ⟨-, ⟨-, rfl⟩ | ⟨-, rfl⟩ | ⟨-, rfl⟩ | ⟨-, rfl⟩ | ⟨-, -, rfl⟩ | ⟨-, rfl⟩⟩
  · exact s.pending_respond _ _
  · exact s.pending_awaitResponse
  · rfl
  · rfl
  · unfold popTest
    split
    · exact s.pending_respond _ _
    · rfl
  · rfl
  · exact s.pending_respond _ _

/-- No command looks at the requests to come. -/
theorem exec_pending {i : Instr} {s t : State} (h : exec i s = .next t) : t.io.pending = s.io.pending := by
  rcases codec_or_ring i with hcodec | rfl | rfl
  · obtain ⟨f, hf⟩ := exec_codec hcodec
    rcases s.codec_cases f with ⟨-, hnext⟩ | ⟨-, hrefused⟩
    · rw [hf, hnext] at h
      rw [← Host.Outcome.next.inj h, State.pending_respond]
    · rw [hf, hrefused] at h
      cases h
  · exact exec_rbPush_pending h
  · exact exec_rbPop_pending h

/-- A turn takes at most the first of the requests to come. -/
theorem stepPort_pending {s t : State} (h : stepPort s = .next t) : t.io.pending <:+ s.io.pending := by
  rcases stepPort_cases h with ⟨-, -, rfl⟩ | ⟨r, rs, -, hpending, ⟨i, -, hexec⟩ | ⟨e, -, rfl⟩⟩ | ⟨-, hexec⟩
  · exact List.suffix_rfl
  · rw [exec_pending hexec, State.io_taken, hpending]
    exact List.suffix_cons r rs
  · rw [State.respondIllegal, State.io_respond, State.io_taken, hpending]
    exact List.suffix_cons r rs
  · rw [exec_pending hexec]

/-- What the producer's master presents after a step is what it would have presented before. -/
theorem step_prodIO_pending {s t : State} (h : step s = .next t) : t.prodIO.pending <:+ s.prodIO.pending := by
  rcases step_cases h with ⟨-, rfl⟩ | ⟨-, rfl⟩ | ⟨p, draw, hturn, hport⟩
  · exact List.suffix_rfl
  · exact List.suffix_rfl
  · cases p with
    | prod =>
      have hframe := (prodStep_of_step hturn h).frame rfl
      have hio : t.io = t.prodIO := by rw [State.io, hframe.port]; rfl
      rw [← hio]
      exact stepPort_pending hport
    | cons => rw [((consStep_of_step hturn h).frame rfl).prodIO, State.takeTurn_prodIO]

/-- The masters go on presenting pushes of `L` words (R302, D16). -/
theorem State.envOk.step {s t : State} (henv : s.envOk) (h : Machine.step s = .next t) : t.envOk := by
  intro r hr hcmd
  rw [step_params h]
  exact henv r ((step_prodIO_pending h).mem hr) hcmd

/-! ## The steps a transaction still takes -/

theorem State.stepsLeft_le (s : State) (p : Port) : s.stepsLeft p ≤ 5 := by
  cases p
  · cases hphase : s.prod.phase <;> simp [State.stepsLeft, hphase]
  · cases hphase : s.cons.phase <;> simp [State.stepsLeft, hphase]

theorem State.stepsLeft_prod_eq_zero {s : State} : s.stepsLeft .prod = 0 ↔ s.prod.phase = .idle := by
  cases hphase : s.prod.phase <;> simp [State.stepsLeft, hphase]

theorem State.stepsLeft_cons_eq_zero {s : State} : s.stepsLeft .cons = 0 ↔ s.cons.phase = .idle := by
  cases hphase : s.cons.phase <;> simp [State.stepsLeft, hphase]

/-- The steps left are those of the phases. -/
theorem State.stepsLeft_congr {s t : State} (hprod : t.prod = s.prod) (hcons : t.cons = s.cons) (p : Port) :
    t.stepsLeft p = s.stepsLeft p := by
  cases p
  · rw [State.stepsLeft, State.stepsLeft, hprod]
  · rw [State.stepsLeft, State.stepsLeft, hcons]

/-- Each turn of the producer brings its push nearer to the response (R316). -/
theorem ProdStep.stepsLeft_lt {s t : State} (h : ProdStep s t) (hbusy : s.prod.phase ≠ .idle) :
    t.stepsLeft .prod < s.stepsLeft .prod := by
  cases h with
  | lanes io hphase => exact absurd hphase hbusy
  | accept r rs hphase => exact absurd hphase hbusy
  | test hphase => unfold pushTest; split <;> simp [State.stepsLeft, hphase]
  | loadHead hphase | loadTail hphase | copyIn hphase _ | publish hphase => simp [State.stepsLeft, hphase]

/-- Each turn of the consumer brings its pop nearer to the response (R316). -/
theorem ConsStep.stepsLeft_lt {s t : State} (h : ConsStep s t) (hbusy : s.cons.phase ≠ .idle) :
    t.stepsLeft .cons < s.stepsLeft .cons := by
  cases h with
  | lanes io hphase => exact absurd hphase hbusy
  | accept r rs hphase => exact absurd hphase hbusy
  | test hphase => unfold popTest; split <;> simp [State.stepsLeft, hphase]
  | loadHead hphase | loadTail hphase | copyOut hphase _ | release hphase => simp [State.stepsLeft, hphase]

/-- A push that ends has its response: only P3 and P5 end it (R305, R307). -/
theorem ProdStep.rsp_of_end {s t : State} (h : ProdStep s t) (hport : s.port = .prod) (hbusy : s.prod.phase ≠ .idle)
    (hend : t.prod.phase = .idle) : t.prodIO.rsp ≠ none := by
  cases h with
  | lanes io hphase => exact absurd hphase hbusy
  | accept r rs hphase => exact absurd hphase hbusy
  | test hphase =>
    rw [pushTest_full (pushTest_idle_iff.1 hend), State.respond_prod_eq hport]
    exact Option.some_ne_none _
  | publish hphase =>
    rw [pushPublish_prodIO hport]
    exact Option.some_ne_none _
  | loadHead | loadTail | copyIn => cases hend

/-- A pop that ends has its response: only C3 and C5 end it (R313, R315). -/
theorem ConsStep.rsp_of_end {s t : State} (h : ConsStep s t) (hport : s.port = .cons) (hbusy : s.cons.phase ≠ .idle)
    (hend : t.cons.phase = .idle) : t.consIO.rsp ≠ none := by
  cases h with
  | lanes io hphase => exact absurd hphase hbusy
  | accept r rs hphase => exact absurd hphase hbusy
  | test hphase =>
    rw [popTest_empty (popTest_idle_iff.1 hend), State.respond_cons_eq hport]
    exact Option.some_ne_none _
  | release hphase =>
    rw [popRelease, State.respond_cons_eq hport]
    exact Option.some_ne_none _
  | loadHead | loadTail | copyOut => cases hend

section Turns

variable {s t : State} {p q : Port} {draw : Nat} (hturn : s.nextTurn = some (.move q draw)) (hstep : step s = .next t)
include hturn hstep

/-- A turn of the port brings its transaction nearer to the response (R316). -/
theorem stepsLeft_lt_of_own_turn (hbusy : 0 < s.stepsLeft q) : t.stepsLeft q < s.stepsLeft q := by
  cases q with
  | prod => exact (prodStep_of_step hturn hstep).stepsLeft_lt (mt State.stepsLeft_prod_eq_zero.2 hbusy.ne')
  | cons => exact (consStep_of_step hturn hstep).stepsLeft_lt (mt State.stepsLeft_cons_eq_zero.2 hbusy.ne')

/-- A turn of the other port leaves the transaction where it is. -/
theorem stepsLeft_of_other_turn (hne : p ≠ q) : t.stepsLeft p = s.stepsLeft p := by
  cases p <;> cases q
  · exact absurd rfl hne
  · rw [State.stepsLeft, State.stepsLeft, ((consStep_of_step hturn hstep).frame rfl).prod]
    rfl
  · rw [State.stepsLeft, State.stepsLeft, ((prodStep_of_step hturn hstep).frame rfl).cons]
    rfl
  · exact absurd rfl hne

/-- The step that ends a transaction gives its response (R356). -/
theorem responseOn_of_end (hbusy : 0 < s.stepsLeft p) (hend : t.stepsLeft p = 0) : t.responseOn p ≠ none := by
  obtain rfl : p = q := by
    by_contra hne
    rw [stepsLeft_of_other_turn hturn hstep hne] at hend
    omega
  cases p with
  | prod =>
    exact (prodStep_of_step hturn hstep).rsp_of_end rfl (mt State.stepsLeft_prod_eq_zero.2 hbusy.ne')
      (State.stepsLeft_prod_eq_zero.1 hend)
  | cons =>
    exact (consStep_of_step hturn hstep).rsp_of_end rfl (mt State.stepsLeft_cons_eq_zero.2 hbusy.ne')
      (State.stepsLeft_cons_eq_zero.1 hend)

end Turns

/-- While a transaction is in flight there is a next turn (R356). -/
theorem State.nextTurn_of_busy {s : State} {p : Port} (hbusy : 0 < s.stepsLeft p) : ∃ turn, s.nextTurn = some turn := by
  refine Option.ne_none_iff_exists'.1 fun hnone => ?_
  obtain ⟨-, hprod, hcons⟩ := State.nextTurn_none.1 hnone
  rw [State.stepsLeft_eq_zero hprod hcons] at hbusy
  exact absurd hbusy (Nat.lt_irrefl 0)

/-! ## Every transaction comes to its response -/

/-- Within `bound` steps the transaction on the port has its response, or a reset of the schedule has aborted it. -/
def State.EndsWithin (s : State) (p : Port) (bound : Nat) : Prop :=
  ∃ (n : Nat) (t : State), n ≤ bound ∧ Host.Core.run core n s = .next t ∧ t.stepsLeft p = 0 ∧
    (t.responseOn p ≠ none ∨ .reset ∈ s.sched.take n)

/-- A transaction ends within a step more than it does after that step. -/
theorem State.EndsWithin.of_step {s u : State} {p : Port} {bound : Nat} (hbusy : 0 < s.stepsLeft p)
    (hstep : step s = .next u) (hrest : 0 < u.stepsLeft p → u.EndsWithin p bound) : s.EndsWithin p (bound + 1) := by
  obtain ⟨turn, hturn⟩ := State.nextTurn_of_busy hbusy
  rcases Nat.eq_zero_or_pos (u.stepsLeft p) with hend | hgoesOn
  · refine ⟨1, u, Nat.le_add_left _ _, run_succ hstep, hend, ?_⟩
    cases turn with
    | reset =>
      obtain ⟨rest, hsched⟩ := State.sched_of_nextTurn_reset hturn
      exact .inr (by rw [hsched]; exact List.mem_cons_self)
    | move q draw => exact .inl (responseOn_of_end hturn hstep hbusy hend)
  · obtain ⟨n, t, hn, hrun, hzero, hresponse⟩ := hrest hgoesOn
    refine ⟨n + 1, t, Nat.succ_le_succ hn, (run_succ hstep).trans hrun, hzero, hresponse.imp_right fun hreset => ?_⟩
    rw [step_sched hstep] at hreset
    cases hsched : s.sched with
    | nil => rw [hsched] at hreset; simp at hreset
    | cons turn rest => rw [hsched] at hreset; exact List.mem_cons_of_mem _ hreset

/-- After the schedule has ended only busy ports move, and each turn shortens one transaction and leaves the other (log 22). -/
theorem endsWithin_of_sched_nil {p : Port} {total : Nat} {s : State} (hinv : s.Inv) (henv : s.envOk)
    (hsched : s.sched = []) (htotal : s.stepsLeft .prod + s.stepsLeft .cons ≤ total) (hbusy : 0 < s.stepsLeft p) :
    s.EndsWithin p total := by
  induction total generalizing s with
  | zero => cases p <;> omega
  | succ total ih =>
    obtain ⟨u, hstep⟩ := hinv.step_completes henv
    obtain ⟨q, draw, hturn, hq⟩ := State.nextTurn_of_inFlight hsched hbusy
    have hown := stepsLeft_lt_of_own_turn hturn hstep hq
    have hother := fun r (hne : r ≠ q) => stepsLeft_of_other_turn hturn hstep hne
    have hless : u.stepsLeft .prod + u.stepsLeft .cons ≤ total := by
      cases q with
      | prod => have := hother .cons nofun; omega
      | cons => have := hother .prod nofun; omega
    have hnil : u.sched = [] := by rw [step_sched hstep, hsched, List.tail_nil]
    exact .of_step hbusy hstep (ih (hinv.step hstep) (henv.step hstep) hnil hless)

/-- Under a schedule of `n` turns a transaction ends within `n + 10` steps (R316, R356, log 22). -/
theorem endsWithin_of_sched {p : Port} {turns : List Turn} {s : State} (hinv : s.Inv) (henv : s.envOk)
    (hsched : s.sched = turns) (hbusy : 0 < s.stepsLeft p) : s.EndsWithin p (turns.length + 10) := by
  induction turns generalizing s with
  | nil =>
    have hprod := s.stepsLeft_le .prod
    have hcons := s.stepsLeft_le .cons
    exact endsWithin_of_sched_nil hinv henv hsched (by rw [List.length_nil]; omega) hbusy
  | cons turn turns ih =>
    obtain ⟨u, hstep⟩ := hinv.step_completes henv
    have hrest : u.sched = turns := by rw [step_sched hstep, hsched, List.tail_cons]
    rw [List.length_cons, Nat.add_right_comm]
    exact .of_step hbusy hstep (ih (hinv.step hstep) (henv.step hstep) hrest)

/-! ## Transactions in endless runs -/

/-- The turn is one that ends the wait of a transaction on the port: a move of the port, or reset. -/
def Turn.Concerns (p : Port) (turn : Turn) : Prop :=
  turn = .reset ∨ ∃ draw, turn = .move p draw

section Runs

variable {input : Nat → Input} {run : Nat → State} (hrun : IsRun input run)
include hrun

/-- A turn that is no reset and not the port's leaves its transaction where it is. -/
theorem IsRun.stepsLeft_of_other {m : Nat} {p : Port} (h : ¬(input m).turn.Concerns p) :
    (run (m + 1)).stepsLeft p = (run m).stepsLeft p := by
  have hnext := State.nextTurn_feed (run m) (input m)
  cases hturn : (input m).turn with
  | reset => exact absurd (.inl hturn) h
  | move q draw =>
    have hne : p ≠ q := by
      rintro rfl
      exact h (.inr ⟨draw, hturn⟩)
    rw [hturn] at hnext
    rw [stepsLeft_of_other_turn hnext (hrun.steps m) hne]
    exact State.stepsLeft_congr rfl rfl p

/-- Until the next turn that concerns it, a transaction stays where it is. -/
theorem IsRun.stepsLeft_until {m u : Nat} {p : Port} (hle : m ≤ u)
    (h : ∀ v, m ≤ v → v < u → ¬(input v).turn.Concerns p) : (run u).stepsLeft p = (run m).stepsLeft p := by
  induction u, hle using Nat.le_induction with
  | base => rfl
  | succ u hle ih =>
    rw [hrun.stepsLeft_of_other (h u hle (Nat.lt_succ_self u))]
    exact ih fun v hv hlt => h v hv (Nat.lt_succ_of_lt hlt)

/-- A turn of the port brings its transaction nearer to the response, and gives the response where it ends it. -/
theorem IsRun.own_turn {m : Nat} {p : Port} {draw : Nat} (hturn : (input m).turn = .move p draw)
    (hbusy : 0 < (run m).stepsLeft p) :
    (run (m + 1)).stepsLeft p < (run m).stepsLeft p ∧
      ((run (m + 1)).stepsLeft p = 0 → (run (m + 1)).responseOn p ≠ none) := by
  have hnext := State.nextTurn_feed (run m) (input m)
  have hfeed : ((run m).feed (input m)).stepsLeft p = (run m).stepsLeft p := State.stepsLeft_congr rfl rfl p
  rw [hturn] at hnext
  rw [← hfeed] at hbusy ⊢
  exact ⟨stepsLeft_lt_of_own_turn hnext (hrun.steps m) hbusy, responseOn_of_end hnext (hrun.steps m) hbusy⟩

/-- A reset leaves no transaction in flight (R377). -/
theorem IsRun.stepsLeft_of_reset {m : Nat} (hturn : (input m).turn = .reset) (p : Port) :
    (run (m + 1)).stepsLeft p = 0 := by
  have hnext := State.nextTurn_feed (run m) (input m)
  have hstep := hrun.steps m
  rw [step, hnext, hturn] at hstep
  rw [← Host.Outcome.next.inj hstep]
  exact State.stepsLeft_eq_zero rfl rfl p

/-- In an endless run a transaction comes to its response unless reset intervenes (R356): the next turn that concerns it
aborts it, ends it, or leaves it nearer to its response. -/
theorem IsRun.ends {m : Nat} {p : Port} (hbusy : 0 < (run m).stepsLeft p) :
    ∃ u, m < u ∧ (run u).stepsLeft p = 0 ∧
      ((run u).responseOn p ≠ none ∨ ∃ v, m ≤ v ∧ v < u ∧ (input v).turn = .reset) := by
  induction hleft : (run m).stepsLeft p using Nat.strong_induction_on generalizing m with
  | _ left ih =>
    classical
    have hsome : ∃ u, m ≤ u ∧ (input u).turn.Concerns p := hrun.goesOn m p hbusy
    obtain ⟨hle, hconcerns⟩ := Nat.find_spec hsome
    have hwait := hrun.stepsLeft_until hle fun v hv hlt hc => Nat.find_min hsome hlt ⟨hv, hc⟩
    generalize Nat.find hsome = u at hle hconcerns hwait
    rcases hconcerns with hreset | ⟨draw, hmove⟩
    · exact ⟨u + 1, Nat.lt_succ_of_le hle, hrun.stepsLeft_of_reset hreset p, .inr ⟨u, hle, Nat.lt_succ_self u, hreset⟩⟩
    · obtain ⟨hless, hresponse⟩ := hrun.own_turn hmove (hwait ▸ hbusy)
      rcases Nat.eq_zero_or_pos ((run (u + 1)).stepsLeft p) with hend | hgoesOn
      · exact ⟨u + 1, Nat.lt_succ_of_le hle, hend, .inl (hresponse hend)⟩
      · obtain ⟨w, hw, hzero, hor⟩ := ih _ (by omega) hgoesOn rfl
        refine ⟨w, by omega, hzero, hor.imp_right ?_⟩
        rintro ⟨v, hv, hvw, hreset⟩
        exact ⟨v, by omega, hvw, hreset⟩

end Runs

/-! ## The obligations on progress -/

/-- Settles O51: no turn of a state with the invariant stops, and the requests to come only get fewer. -/
theorem stepNeverStops : Obligations.StepNeverStops := by
  unfold Obligations.StepNeverStops
  intro s hinv henv
  obtain ⟨t, hstep⟩ := hinv.step_completes henv
  exact ⟨t, hstep, henv.step hstep⟩

/-- Settles O52: the steps left of a transaction fall with every turn of its port, and a port with a transaction in flight gets
its turns. -/
theorem transactionsAreBounded : Obligations.TransactionsAreBounded := by
  unfold Obligations.TransactionsAreBounded
  refine ⟨fun s t p q draw _ hturn hstep => ⟨s.stepsLeft_le p, ?own, stepsLeft_of_other_turn hturn hstep⟩,
    fun s p hinv henv => endsWithin_of_sched hinv henv rfl, fun input run hrun _ m p => hrun.ends⟩
  case own =>
    rintro rfl
    exact stepsLeft_lt_of_own_turn hturn hstep

/-! ## A whole push, a whole pop -/

theorem run_add {m n : Nat} {s u : State} (h : Host.Core.run core m s = .next u) :
    Host.Core.run core (m + n) s = Host.Core.run core n u := by
  induction m generalizing s with
  | zero =>
    obtain rfl : s = u := Host.Outcome.next.inj h
    rw [Nat.zero_add]
  | succ m ih =>
    obtain ⟨v, hstep, hrest⟩ := step_of_run_succ h
    rw [Nat.add_right_comm, run_succ hstep, ih hrest]

theorem run_two {s u t : State} (hfirst : step s = .next u) (hsecond : step u = .next t) :
    Host.Core.run core 2 s = .next t := by
  rw [run_succ hfirst, run_succ hsecond]
  rfl

theorem State.Inv.run {n : Nat} {s t : State} (hinv : s.Inv) (h : Host.Core.run core n s = .next t) : t.Inv := by
  induction n generalizing s with
  | zero =>
    obtain rfl : s = t := Host.Outcome.next.inj h
    exact hinv
  | succ n ih =>
    obtain ⟨u, hstep, hrest⟩ := step_of_run_succ h
    exact ih (hinv.step hstep) hrest

/-- The first turn of the schedule is taken: it is the turn of `p` with the free number `draw`, and `rest` is still to come. -/
def State.onTurn (s : State) (p : Port) (draw : Nat) (rest : List Turn) : State :=
  { s with port := p, draw := draw, sched := rest }

/-- The invariant does not look at whose turn it is, nor at the turns to come. -/
theorem State.Inv.onTurn {s : State} (hinv : s.Inv) (p : Port) (draw : Nat) (rest : List Turn) :
    (s.onTurn p draw rest).Inv :=
  ⟨hinv.params, hinv.tail, hinv.head, hinv.vh_le, hinv.pop_le_vt, hinv.vt_le, hinv.room, hinv.mem_wf, hinv.mem_inside,
    hinv.written, hinv.prod, hinv.cons⟩

/-- P0 in a scheduled turn: the request `r` is taken, its words are latched, and `rs` are still to be presented. -/
def State.pushAccepted (s : State) (r : Request) (rs : List Request) (draw : Nat) (rest : List Turn) : State :=
  { s.onTurn .prod draw rest with
    prod := { s.prod with phase := .p1, d := r.lanes.d }
    prodIO := { pending := rs, req := r, rsp := none } }

/-- C0 in a scheduled turn: the request `r` is taken, and `rs` are still to be presented. -/
def State.popAccepted (s : State) (r : Request) (rs : List Request) (draw : Nat) (rest : List Turn) : State :=
  { s.onTurn .cons draw rest with
    cons := { s.cons with phase := .c1 }
    consIO := { pending := rs, req := r, rsp := none } }

/-- P4 and P5, each in a scheduled turn of the producer. -/
def State.afterStores (s : State) (draw draw' : Nat) (rest : List Turn) : State :=
  pushPublish ((pushCopy (s.onTurn .prod draw (.move .prod draw' :: rest))).onTurn .prod draw' rest)

/-- C4 and C5, each in a scheduled turn of the consumer. -/
def State.afterReleases (s : State) (draw draw' : Nat) (rest : List Turn) : State :=
  popRelease ((popCopy (s.onTurn .cons draw (.move .cons draw' :: rest))).onTurn .cons draw' rest)

/-- Turns of the producer alone leave everything of the consumer's as it was (R24, R355). -/
theorem run_prod_turns {draws : List Nat} {rest : List Turn} {s t : State}
    (hsched : s.sched = turnsOf .prod draws ++ rest) (hrun : Host.Core.run core draws.length s = .next t) :
    t.sched = rest ∧ t.head = s.head ∧ t.npop = s.npop ∧ t.vt = s.vt ∧ t.cons = s.cons ∧ t.consIO = s.consIO := by
  induction draws generalizing s with
  | nil =>
    obtain rfl : s = t := Host.Outcome.next.inj hrun
    exact ⟨hsched, rfl, rfl, rfl, rfl, rfl⟩
  | cons draw draws ih =>
    obtain ⟨u, hstep, hrest⟩ := step_of_run_succ hrun
    have hframe := (prodStep_of_step (State.nextTurn_of_sched hsched) hstep).frame rfl
    have hsched' : u.sched = turnsOf .prod draws ++ rest := by rw [step_sched hstep, hsched]; rfl
    obtain ⟨hend, hhead, hnpop, hvt, hcons, hconsIO⟩ := ih hsched' hrest
    exact ⟨hend, hhead.trans hframe.head, hnpop.trans hframe.npop, hvt.trans hframe.vt, hcons.trans hframe.cons,
      hconsIO.trans hframe.consIO⟩

/-- Turns of the consumer alone leave everything of the producer's, and slot memory, as it was (R23, R33, R355). -/
theorem run_cons_turns {draws : List Nat} {rest : List Turn} {s t : State}
    (hsched : s.sched = turnsOf .cons draws ++ rest) (hrun : Host.Core.run core draws.length s = .next t) :
    t.sched = rest ∧ t.tail = s.tail ∧ t.npush = s.npush ∧ t.vh = s.vh ∧ t.prod = s.prod ∧ t.prodIO = s.prodIO ∧
      ∀ a, t.readWord a = s.readWord a := by
  induction draws generalizing s with
  | nil =>
    obtain rfl : s = t := Host.Outcome.next.inj hrun
    exact ⟨hsched, rfl, rfl, rfl, rfl, rfl, fun _ => rfl⟩
  | cons draw draws ih =>
    obtain ⟨u, hstep, hrest⟩ := step_of_run_succ hrun
    have hframe := (consStep_of_step (State.nextTurn_of_sched hsched) hstep).frame rfl
    have hsched' : u.sched = turnsOf .cons draws ++ rest := by rw [step_sched hstep, hsched]; rfl
    obtain ⟨hend, htail, hnpush, hvh, hprod, hprodIO, hwords⟩ := ih hsched' hrest
    exact ⟨hend, htail.trans hframe.tail, hnpush.trans hframe.npush, hvh.trans hframe.vh, hprod.trans hframe.prod,
      hprodIO.trans hframe.prodIO, fun a => (hwords a).trans (State.readWord_congr hframe.mem hframe.resets a)⟩

section Scheduled

variable {s : State} {p : Port} {draw : Nat} {rest : List Turn}

theorem State.takeTurn_of_sched (hsched : s.sched = .move p draw :: rest) : s.takeTurn p draw = s.onTurn p draw rest := by
  rw [State.takeTurn, hsched]
  rfl

theorem step_scheduled (hsched : s.sched = .move p draw :: rest) : step s = stepPort (s.onTurn p draw rest) := by
  rw [step_of_move (State.nextTurn_of_sched hsched), State.takeTurn_of_sched hsched]

/-- A scheduled turn of the busy producer port goes on with its push. -/
theorem step_scheduled_push (hsched : s.sched = .move .prod draw :: rest) (hbusy : s.prod.phase ≠ .idle) :
    step s = exec .rbPush (s.onTurn .prod draw rest) := by
  rw [step_scheduled hsched]
  exact stepPort_of_busy (mt (State.portIdle_prod rfl).1 hbusy)

/-- A scheduled turn of the busy consumer port goes on with its pop. -/
theorem step_scheduled_pop (hsched : s.sched = .move .cons draw :: rest) (hbusy : s.cons.phase ≠ .idle) :
    step s = exec .rbPop (s.onTurn .cons draw rest) := by
  rw [step_scheduled hsched]
  exact stepPort_of_busy (mt (State.portIdle_cons rfl).1 hbusy)

/-- A scheduled turn of the idle producer port that is presented a push of `L` words accepts it. -/
theorem step_scheduled_accept_push {r : Request} {rs : List Request} (hsched : s.sched = .move .prod draw :: rest)
    (hidle : s.prod.phase = .idle) (hpending : s.prodIO.pending = r :: rs) (hcmd : r.cmd = encode .rbPush)
    (hwf : r.wf s.params = true) : step s = .next (s.pushAccepted r rs draw rest) := by
  have hdecode : decode r.cmd = .ok .rbPush := hcmd ▸ decode_encode .rbPush
  calc step s
    _ = stepPort (s.onTurn .prod draw rest) := step_scheduled hsched
    _ = exec .rbPush ((s.onTurn .prod draw rest).taken r rs) :=
      stepPort_of_command ((State.portIdle_prod rfl).2 hidle) hpending hdecode
    _ = pushAccept ((s.onTurn .prod draw rest).taken r rs) := exec_rbPush_idle rfl hidle
    _ = .next (s.pushAccepted r rs draw rest) := pushAccept_of_length_eq (Request.wf_iff.1 hwf)

/-- A scheduled turn of the idle consumer port that is presented a pop accepts it. -/
theorem step_scheduled_accept_pop {r : Request} {rs : List Request} (hsched : s.sched = .move .cons draw :: rest)
    (hidle : s.cons.phase = .idle) (hpending : s.consIO.pending = r :: rs) (hcmd : r.cmd = encode .rbPop) :
    step s = .next (s.popAccepted r rs draw rest) := by
  have hdecode : decode r.cmd = .ok .rbPop := hcmd ▸ decode_encode .rbPop
  calc step s
    _ = stepPort (s.onTurn .cons draw rest) := step_scheduled hsched
    _ = exec .rbPop ((s.onTurn .cons draw rest).taken r rs) :=
      stepPort_of_command ((State.portIdle_cons rfl).2 hidle) hpending hdecode
    _ = .next (s.popAccepted r rs draw rest) := exec_rbPop_idle rfl hidle

/-- P1 and P2 in two turns: the latches hold the position of an allowed count and the current `tail` (R303, R304). -/
theorem run_push_loads {draw' : Nat} (hle : s.vh ≤ s.npop) (hphase : s.prod.phase = .p1)
    (hsched : s.sched = .move .prod draw :: .move .prod draw' :: rest) :
    ∃ k, s.vh ≤ k ∧ k ≤ s.npop ∧ Host.Core.run core 2 s = .next { s.onTurn .prod draw' rest with
      vh := k
      prod := { phase := .p3, h := s.position k, t := s.tail, d := s.prod.d } } := by
  have hload := (step_scheduled_push hsched (by rw [hphase]; nofun)).trans (exec_rbPush_p1 rfl hphase)
  have hload' := (step_scheduled_push (s := pushLoadHead (s.onTurn .prod draw (.move .prod draw' :: rest))) rfl (by simp)).trans
    (exec_rbPush_p2 rfl rfl)
  obtain ⟨hlo, hhi⟩ := State.loadOther_bounds (s.onTurn .prod draw (.move .prod draw' :: rest)) hle
  exact ⟨_, hlo, hhi, run_two hload hload'⟩

/-- C1 and C2 in two turns: the latches hold the current `head` and the position of an allowed count (R311, R312). -/
theorem run_pop_loads {draw' : Nat} (hle : s.vt ≤ s.npush) (hphase : s.cons.phase = .c1)
    (hsched : s.sched = .move .cons draw :: .move .cons draw' :: rest) :
    ∃ k, s.vt ≤ k ∧ k ≤ s.npush ∧ Host.Core.run core 2 s = .next { s.onTurn .cons draw' rest with
      vt := k
      cons := { phase := .c3, h := s.head, t := s.position k, d := s.cons.d } } := by
  have hload := (step_scheduled_pop hsched (by rw [hphase]; nofun)).trans (exec_rbPop_c1 rfl hphase)
  have hload' := (step_scheduled_pop (s := popLoadHead (s.onTurn .cons draw (.move .cons draw' :: rest))) rfl (by simp)).trans
    (exec_rbPop_c2 rfl rfl)
  obtain ⟨hlo, hhi⟩ := State.loadOther_bounds
    ((popLoadHead (s.onTurn .cons draw (.move .cons draw' :: rest))).onTurn .cons draw' rest) hle
  exact ⟨_, hlo, hhi, run_two hload hload'⟩

section Latched

variable (hinv : s.Inv)
include hinv

/-- The turn of P3 where the producer's view leaves no room: the words are handed back (R305). -/
theorem step_scheduled_full (hphase : s.prod.phase = .p3) (hsched : s.sched = .move .prod draw :: rest)
    (hfull : s.npush = s.vh + s.params.capacity) :
    step s = .next { s.onTurn .prod draw rest with
      prod := { s.prod with phase := .idle }
      prodIO := { s.prodIO with rsp := some { status := .full, lanes :=
        { Lanes.zero s.params.slotWords with d := s.prod.d } } } } := by
  obtain ⟨hlen, -, -⟩ := hinv.at_p3 hphase
  have hdistance := beq_iff_eq.1 ((hinv.isFull_iff hphase).2 hfull)
  rw [step_scheduled_push hsched (by rw [hphase]; nofun)]
  exact (pushFullTest (s.onTurn .prod draw rest) rfl hphase hlen).1 hdistance

/-- The turn of P3 where the producer's view leaves room (R305). -/
theorem step_scheduled_room (hphase : s.prod.phase = .p3) (hsched : s.sched = .move .prod draw :: rest)
    (hroom : s.npush ≠ s.vh + s.params.capacity) :
    step s = .next { s.onTurn .prod draw rest with prod := { s.prod with phase := .p4 } } := by
  obtain ⟨hlen, -, -⟩ := hinv.at_p3 hphase
  have hdistance := mt beq_iff_eq.2 (mt (hinv.isFull_iff hphase).1 hroom)
  rw [step_scheduled_push hsched (by rw [hphase]; nofun)]
  exact (pushFullTest (s.onTurn .prod draw rest) rfl hphase hlen).2 hdistance

/-- The turn of C3 where the consumer's view holds no element (R313). -/
theorem step_scheduled_empty (hphase : s.cons.phase = .c3) (hsched : s.sched = .move .cons draw :: rest)
    (hempty : s.npop = s.vt) :
    step s = .next { s.onTurn .cons draw rest with
      cons := { s.cons with phase := .idle }
      consIO := { s.consIO with rsp := some { status := .empty, lanes := Lanes.zero s.params.slotWords } } } := by
  have heq := beq_iff_eq.1 ((hinv.isEmpty_iff hphase).2 hempty)
  rw [step_scheduled_pop hsched (by rw [hphase]; nofun)]
  exact (popEmptyTest (s.onTurn .cons draw rest) rfl hphase).1 heq

/-- The turn of C3 where the consumer's view holds an element (R313). -/
theorem step_scheduled_element (hphase : s.cons.phase = .c3) (hsched : s.sched = .move .cons draw :: rest)
    (helement : s.npop ≠ s.vt) :
    step s = .next { s.onTurn .cons draw rest with cons := { s.cons with phase := .c4 } } := by
  have hne := mt beq_iff_eq.2 (mt (hinv.isEmpty_iff hphase).1 helement)
  rw [step_scheduled_pop hsched (by rw [hphase]; nofun)]
  exact (popEmptyTest (s.onTurn .cons draw rest) rfl hphase).2 hne

/-- P4 and P5 in two turns (R306, R307). -/
theorem run_push_stores {draw' : Nat} (hphase : s.prod.phase = .p4)
    (hsched : s.sched = .move .prod draw :: .move .prod draw' :: rest) :
    Host.Core.run core 2 s = .next (s.afterStores draw draw' rest) := by
  obtain ⟨-, ht, -⟩ := hinv.at_p4 hphase
  have hlt : s.prod.t < 2 * s.params.capacity := ht ▸ State.position_lt (Params.capacity_pos hinv.params) _
  have hcopy := (step_scheduled_push hsched (by rw [hphase]; nofun)).trans (exec_rbPush_copyIn rfl hphase hlt)
  have hpublish := (step_scheduled_push (s := pushCopy (s.onTurn .prod draw (.move .prod draw' :: rest))) rfl
    (by simp)).trans (exec_rbPush_p5 rfl rfl)
  exact run_two hcopy hpublish

/-- The words of the push are appended to the queue (R318). -/
theorem queue_afterStores {draw' : Nat} (hphase : s.prod.phase = .p4) :
    (s.afterStores draw draw' rest).queue = s.queue ++ [s.prod.d] := by
  have hturn := hinv.onTurn .prod draw (.move .prod draw' :: rest)
  obtain ⟨-, ht, -⟩ := hinv.at_p4 hphase
  have hcopied := (ProdStep.copyIn (s := s.onTurn .prod draw (.move .prod draw' :: rest)) hphase
    (ht ▸ State.slotInside_position (Params.capacity_pos hinv.params) _)).queue_eq hturn rfl (hphase ▸ nofun)
  have hpublished := ((hturn.pushCopy hphase).onTurn .prod draw' rest).queue_pushPublish rfl
  exact hpublished.trans (congrArg (· ++ [s.prod.d]) hcopied)

theorem tail_afterStores {draw' : Nat} (hphase : s.prod.phase = .p4) :
    (s.afterStores draw draw' rest).tail = (s.prod.t + 1) % (2 * s.params.capacity) := by
  obtain ⟨-, ht, -⟩ := hinv.at_p4 hphase
  exact inc_eq_mod (ht ▸ State.position_lt (Params.capacity_pos hinv.params) _)

/-- No word outside the slot at `p.t` is written (R306). -/
theorem readWord_afterStores {draw' a : Nat} (hphase : s.prod.phase = .p4)
    (ha : a < slotOf s.params.capacity s.prod.t * s.params.slotWords ∨
      slotOf s.params.capacity s.prod.t * s.params.slotWords + s.params.slotWords ≤ a) :
    (s.afterStores draw draw' rest).readWord a = s.readWord a := by
  obtain ⟨hlen, ht, -⟩ := hinv.at_p4 hphase
  have hcap := Params.capacity_pos hinv.params
  have hread := read?_pushCopy (s := s.onTurn .prod draw (.move .prod draw' :: rest)) hcap ht hlen a
  rw [ht, State.position, slotOf_mod hcap] at ha
  have houtside : ¬(s.npush % s.params.capacity * s.params.slotWords ≤ a ∧
      a < s.npush % s.params.capacity * s.params.slotWords + s.params.slotWords) := by omega
  exact congrArg (Option.getD · _) (hread.trans (if_neg houtside))

/-- C4 and C5 in two turns (R314, R315). -/
theorem run_pop_releases {draw' : Nat} (hphase : s.cons.phase = .c4)
    (hsched : s.sched = .move .cons draw :: .move .cons draw' :: rest) :
    Host.Core.run core 2 s = .next (s.afterReleases draw draw' rest) := by
  obtain ⟨hh, -⟩ := hinv.at_c4 hphase
  have hlt : s.cons.h < 2 * s.params.capacity := hh ▸ State.position_lt (Params.capacity_pos hinv.params) _
  have hcopy := (step_scheduled_pop hsched (by rw [hphase]; nofun)).trans (exec_rbPop_copyOut rfl hphase hlt)
  have hrelease := (step_scheduled_pop (s := popCopy (s.onTurn .cons draw (.move .cons draw' :: rest))) rfl
    (by simp)).trans (exec_rbPop_c5 rfl rfl)
  exact run_two hcopy hrelease

theorem head_afterReleases {draw' : Nat} (hphase : s.cons.phase = .c4) :
    (s.afterReleases draw draw' rest).head = (s.cons.h + 1) % (2 * s.params.capacity) := by
  obtain ⟨hh, -⟩ := hinv.at_c4 hphase
  exact inc_eq_mod (hh ▸ State.position_lt (Params.capacity_pos hinv.params) _)

/-- The oldest element is removed from the queue and answered with `OK` (R315, R318). -/
theorem queue_afterReleases {draw' : Nat} (hphase : s.cons.phase = .c4) :
    ∃ d, s.queue = d :: (s.afterReleases draw draw' rest).queue ∧
      (s.afterReleases draw draw' rest).consIO.rsp =
        some { status := .ok, lanes := { Lanes.zero s.params.slotWords with d := d } } := by
  have hcopied := (hinv.onTurn .cons draw (.move .cons draw' :: rest)).popCopy hphase
  have hturn := hcopied.onTurn .cons draw' rest
  exact ⟨_, hturn.queue_popRelease rfl, hturn.rsp_popRelease rfl rfl⟩

end Latched

end Scheduled

/-- The push of the request `r` at P3: P1 has loaded `head` as the position of count `k`, P2 has loaded `tail`. The latest turn
had the free number `draw`; `rs` and `rest` are still to come. -/
def State.pushAtTest (s : State) (r : Request) (rs : List Request) (k draw : Nat) (rest : List Turn) : State :=
  { s.onTurn .prod draw rest with
    vh := k
    prod := { phase := .p3, h := s.position k, t := s.tail, d := r.lanes.d }
    prodIO := { pending := rs, req := r, rsp := none } }

/-- The pop of the request `r` at C3: C1 has loaded `head`, C2 has loaded `tail` as the position of count `k`. The latest turn
had the free number `draw`; `rs` and `rest` are still to come. -/
def State.popAtTest (s : State) (r : Request) (rs : List Request) (k draw : Nat) (rest : List Turn) : State :=
  { s.onTurn .cons draw rest with
    vt := k
    cons := { s.cons with phase := .c3, h := s.head, t := s.position k }
    consIO := { pending := rs, req := r, rsp := none } }

/-- Three turns of the producer bring a push to P3 (R302 to R304). -/
theorem run_pushAtTest {s : State} {r : Request} {rs : List Request} {d0 d1 d2 : Nat} {rest : List Turn}
    (hle : s.vh ≤ s.npop) (hidle : s.prod.phase = .idle) (hpending : s.prodIO.pending = r :: rs)
    (hcmd : r.cmd = encode .rbPush) (hwf : r.wf s.params = true)
    (hsched : s.sched = .move .prod d0 :: .move .prod d1 :: .move .prod d2 :: rest) :
    ∃ k, s.vh ≤ k ∧ k ≤ s.npop ∧ Host.Core.run core 3 s = .next (s.pushAtTest r rs k d2 rest) := by
  have haccept := step_scheduled_accept_push hsched hidle hpending hcmd hwf
  obtain ⟨k, hlo, hhi, hloads⟩ :=
    run_push_loads (s := s.pushAccepted r rs d0 (.move .prod d1 :: .move .prod d2 :: rest)) hle rfl rfl
  exact ⟨k, hlo, hhi, (run_succ haccept).trans hloads⟩

/-- Three turns of the consumer bring a pop to C3 (R310 to R312). -/
theorem run_popAtTest {s : State} {r : Request} {rs : List Request} {d0 d1 d2 : Nat} {rest : List Turn}
    (hle : s.vt ≤ s.npush) (hidle : s.cons.phase = .idle) (hpending : s.consIO.pending = r :: rs)
    (hcmd : r.cmd = encode .rbPop) (hsched : s.sched = .move .cons d0 :: .move .cons d1 :: .move .cons d2 :: rest) :
    ∃ k, s.vt ≤ k ∧ k ≤ s.npush ∧ Host.Core.run core 3 s = .next (s.popAtTest r rs k d2 rest) := by
  have haccept := step_scheduled_accept_pop hsched hidle hpending hcmd
  obtain ⟨k, hlo, hhi, hloads⟩ :=
    run_pop_loads (s := s.popAccepted r rs d0 (.move .cons d1 :: .move .cons d2 :: rest)) hle rfl rfl
  exact ⟨k, hlo, hhi, (run_succ haccept).trans hloads⟩

/-! ## The obligations on whole transactions -/

/-- Settles O55: three turns bring the push to P3; the count loaded for `head` decides whether it goes on to store the words
or hands them back. -/
theorem pushStoresOrHandsBack : Obligations.PushStoresOrHandsBack := by
  unfold Obligations.PushStoresOrHandsBack
  intro s r rs d0 d1 d2 d3 d4 d5 rest hinv hidle hpending hcmd hwf
  refine ⟨fun hroom hsched => ?stores, fun hfull hsched => ?handsBack⟩
  case stores =>
    obtain ⟨k, hlo, -, hrun⟩ := run_pushAtTest hinv.vh_le hidle hpending hcmd hwf
      (rest := .move .prod d3 :: .move .prod d4 :: .move .prod d5 :: rest) hsched
    have hinv3 := hinv.run hrun
    have hview : s.npush ≠ k + s.params.capacity := by omega
    have htest := step_scheduled_room hinv3 rfl rfl hview
    have hinv4 := hinv3.step htest
    have hend := (run_add hrun).trans ((run_succ htest).trans (run_push_stores hinv4 rfl rfl))
    obtain ⟨hrest, hhead, hnpop, hvt, hcons, hconsIO⟩ := run_prod_turns hsched hend
    exact ⟨_, hend, hrest, rfl, rfl, rfl, queue_afterStores hinv4 rfl, rfl, tail_afterStores hinv4 rfl, hhead, hnpop, hvt,
      hcons, hconsIO, fun a ha => readWord_afterStores hinv4 rfl ha⟩
  case handsBack =>
    obtain ⟨k, -, hhi, hrun⟩ := run_pushAtTest hinv.vh_le hidle hpending hcmd hwf
      (rest := .move .prod d3 :: rest) hsched
    have hinv3 := hinv.run hrun
    have hroom : s.npush ≤ k + s.params.capacity := hinv3.room
    have hview : s.npush = k + s.params.capacity := by omega
    have htest := step_scheduled_full hinv3 rfl rfl hview
    have hend := (run_add hrun).trans (run_succ (n := 0) htest)
    obtain ⟨hrest, hhead, hnpop, hvt, hcons, hconsIO⟩ := run_prod_turns (draws := [d0, d1, d2, d3]) hsched hend
    exact ⟨_, hend, hrest, rfl, rfl, rfl, rfl, rfl, rfl, hhead, hnpop, hvt, hcons, hconsIO, fun _ => rfl⟩

/-- Settles O56: three turns bring the pop to C3; the count loaded for `tail` decides whether it goes on to release the oldest
element or answers `EMPTY`. -/
theorem popReturnsTheOldestOrEmpty : Obligations.PopReturnsTheOldestOrEmpty := by
  unfold Obligations.PopReturnsTheOldestOrEmpty
  intro s r rs d0 d1 d2 d3 d4 d5 rest hinv hidle hpending hcmd
  refine ⟨fun helement hsched => ?oldest, fun hempty hsched => ?empty⟩
  case oldest =>
    obtain ⟨k, hlo, -, hrun⟩ := run_popAtTest hinv.vt_le hidle hpending hcmd
      (rest := .move .cons d3 :: .move .cons d4 :: .move .cons d5 :: rest) hsched
    have hinv3 := hinv.run hrun
    have hview : s.npop ≠ k := by omega
    have htest := step_scheduled_element hinv3 rfl rfl hview
    have hinv4 := hinv3.step htest
    obtain ⟨d, hqueue, hrsp⟩ := queue_afterReleases (draw := d4) (draw' := d5) (rest := rest) hinv4 rfl
    have hend := (run_add hrun).trans ((run_succ htest).trans (run_pop_releases hinv4 rfl rfl))
    obtain ⟨hrest, htail, hnpush, hvh, hprod, hprodIO, hwords⟩ := run_cons_turns hsched hend
    exact ⟨_, d, hend, hrest, rfl, hrsp, rfl, hqueue, rfl, head_afterReleases hinv4 rfl, htail, hnpush, hvh, hprod, hprodIO,
      hwords⟩
  case empty =>
    obtain ⟨k, hlo, hhi, hrun⟩ := run_popAtTest hinv.vt_le hidle hpending hcmd
      (rest := .move .cons d3 :: rest) hsched
    have hinv3 := hinv.run hrun
    have hseen : s.npop ≤ k := hinv3.pop_le_vt
    have hview : s.npop = k := by omega
    have htest := step_scheduled_empty hinv3 rfl rfl hview
    have hend := (run_add hrun).trans (run_succ (n := 0) htest)
    obtain ⟨hrest, htail, hnpush, hvh, hprod, hprodIO, hwords⟩ := run_cons_turns (draws := [d0, d1, d2, d3]) hsched hend
    exact ⟨_, hend, hrest, rfl, rfl, rfl, rfl, rfl, rfl, htail, hnpush, hvh, hprod, hprodIO, hwords⟩

end Sys2Proof.Machine

/-! PROOFS. Words that are no command of the port: what refuses them, and the turn that answers `ILLEGAL` (R92, R344). -/

namespace Sys2Proof.Machine

/-! ## Commands that the port does not accept -/

/-- The only command a port does not accept is the ring command of the other port (R92). -/
theorem portAccepts_eq_false {p : Port} {i : Instr} (h : portAccepts p i = false) :
    (p = .cons ∧ i = .rbPush) ∨ (p = .prod ∧ i = .rbPop) := by
  unfold portAccepts at h
  split at h
  · exact .inl ⟨rfl, rfl⟩
  · exact .inr ⟨rfl, rfl⟩
  · cases h

/-- A command that an idle port does not accept answers `ILLEGAL` (R92, R344). -/
theorem exec_of_not_portAccepts {s : State} {i : Instr} (hidle : s.portIdle = true) (h : portAccepts s.port i = false) :
    exec i s = .next s.respondIllegal := by
  rcases portAccepts_eq_false h with ⟨hport, rfl⟩ | ⟨hport, rfl⟩
  · exact exec_rbPush_cons_idle hport hidle
  · exact exec_rbPop_prod_idle hport hidle

/-! ## The turn of an idle port -/

/-- An idle port that is presented a word that is no command answers `ILLEGAL` (R344). -/
theorem stepPort_of_no_command {s : State} {r : Request} {rs : List Request} {e : DecodeError} (hidle : s.portIdle = true)
    (hpending : s.io.pending = r :: rs) (hdecode : decode r.cmd = .error e) :
    stepPort s = .next (s.taken r rs).respondIllegal := by
  rw [stepPort, if_pos hidle, State.fetch_of_pending hpending]
  simp only [State.request_taken, hdecode]

/-- An idle port that is presented a word that is no command of the port answers `ILLEGAL` (R91, R92, R344). -/
theorem stepPort_of_illegal {s : State} {r : Request} {rs : List Request} (hidle : s.portIdle = true)
    (hpending : s.io.pending = r :: rs) (hillegal : ∀ i, decode r.cmd = .ok i → portAccepts s.port i = false) :
    stepPort s = .next (s.taken r rs).respondIllegal := by
  cases hdecode : decode r.cmd with
  | error e => exact stepPort_of_no_command hidle hpending hdecode
  | ok i =>
    rw [stepPort_of_command hidle hpending hdecode]
    exact exec_of_not_portAccepts (s := s.taken r rs) hidle (hillegal i hdecode)

/-- Beginning a turn, taking a request and giving a response leave the ring as it was. -/
theorem sameRing_respond_taken_takeTurn (s : State) (p : Port) (draw : Nat) (r : Request) (rs : List Request) (st : Status)
    (l : Lanes) : SameRing s (((s.takeTurn p draw).taken r rs).respond st l) :=
  ⟨rfl, rfl, rfl, rfl, rfl, rfl, rfl, rfl, rfl, State.readWord_congr rfl rfl⟩

/-! ## The obligation -/

/-- Settles O3: the port takes the request and answers `ILLEGAL`, whether its word decodes to no command or to the ring command
of the other port. -/
theorem illegalCommandAnswersIllegal : Obligations.IllegalCommandAnswersIllegal := by
  unfold Obligations.IllegalCommandAnswersIllegal
  intro s p draw r rs hturn hidle hpending hillegal
  have hstep : step s = .next ((s.takeTurn p draw).taken r rs).respondIllegal := by
    rw [step_of_move hturn]
    exact stepPort_of_illegal hidle hpending hillegal
  refine ⟨_, hstep, rfl, ?response, sameRing_respond_taken_takeTurn s p draw r rs _ _⟩
  case response =>
    rw [State.respondIllegal, State.io_respond]
    rfl

end Sys2Proof.Machine

/-! PROOFS. Reset: the ring it leaves, from the initial state and in the middle of a run (R371 to R377). -/

namespace Sys2Proof.Machine

/-! ## The ring that reset leaves -/

/-- What R371 to R375 say of the ring after reset; that no slot word is recorded as written is how the model leaves slot memory
unspecified (R373, log 5). -/
structure State.RingCleared (s : State) : Prop where
  head : s.head = 0
  tail : s.tail = 0
  vh : s.vh = 0
  vt : s.vt = 0
  npush : s.npush = 0
  npop : s.npop = 0
  prod : s.prod.phase = .idle
  cons : s.cons.phase = .idle
  mem : s.mem = []

theorem State.ringCleared_resetWith (p : Params) : (State.resetWith p).RingCleared :=
  ⟨rfl, rfl, rfl, rfl, rfl, rfl, rfl, rfl, rfl⟩

/-- Nothing is asked of `s`: reset clears the ring at any moment (R377). -/
theorem State.ringCleared_applyReset (s : State) (rest : List Turn) : (s.applyReset rest).RingCleared :=
  ⟨rfl, rfl, rfl, rfl, rfl, rfl, rfl, rfl, rfl⟩

/-- A position is at distance 0 from itself, for every capacity (R28). -/
theorem distance_self (c p : Nat) : distance c p p = 0 := by
  rw [distance, Nat.add_sub_cancel_left, Nat.mod_self]

theorem State.RingCleared.distance_eq_zero {s : State} (h : s.RingCleared) (c : Nat) : distance c s.head s.tail = 0 := by
  rw [h.head, h.tail, distance_self]

/-- Equal counters leave nothing between them: the ring is empty (R372). -/
theorem State.RingCleared.queue_eq_nil {s : State} (h : s.RingCleared) : s.queue = [] := by
  rw [← List.length_eq_zero_iff, s.length_queue, h.npush, Nat.zero_sub]

/-- Legal parameters are all that the invariant asks besides a cleared ring (R374): position 0 is that of count 0, nothing is
queued, and idle phases ask nothing of the latches. -/
theorem State.RingCleared.inv {s : State} (h : s.RingCleared) (hparams : s.params.wf = true) : s.Inv where
  params := hparams
  tail := by rw [h.tail, h.npush, State.position, Nat.zero_mod]
  head := by rw [h.head, h.npop, State.position, Nat.zero_mod]
  vh_le := by rw [h.vh, h.npop]
  pop_le_vt := by rw [h.npop, h.vt]
  vt_le := by rw [h.vt, h.npush]
  room := by rw [h.npush]; exact Nat.zero_le _
  mem_wf := by rw [h.mem]; exact List.Pairwise.nil
  mem_inside := by rw [h.mem]; exact fun _ he => absurd he List.not_mem_nil
  written := by rw [h.npush]; exact fun _ hlt => absurd hlt (Nat.not_lt_zero _)
  prod := by rw [State.prodInv, h.prod]; trivial
  cons := by rw [State.consInv, h.cons]; trivial

/-- A reset in the schedule is applied whatever the phases are, and takes its turn from the schedule (R377, logs 2, 20). -/
theorem step_of_reset {s : State} {rest : List Turn} (hsched : s.sched = .reset :: rest) :
    step s = .next (s.applyReset rest) := by
  rw [step, State.nextTurn_of_sched hsched, hsched, List.tail_cons]

/-! ## The obligations -/

/-- Settles O6: the state after reset has a cleared ring, whose cursors are equal and whose counters have nothing between
them. -/
theorem resetClearsTheRing : Obligations.ResetClearsTheRing := by
  unfold Obligations.ResetClearsTheRing
  intro p
  have h := State.ringCleared_resetWith p
  exact ⟨rfl, h.head, h.tail, h.vh, h.vt, h.npush, h.npop, h.prod, h.cons, h.distance_eq_zero _, h.queue_eq_nil⟩

/-- Settles O7: the step applies reset, which clears the ring from any state and withdraws the responses of both ports. -/
theorem resetAbortsAtAnyMoment : Obligations.ResetAbortsAtAnyMoment := by
  unfold Obligations.ResetAbortsAtAnyMoment
  intro s rest hsched
  have h := s.ringCleared_applyReset rest
  exact ⟨s.applyReset rest, step_of_reset hsched, s.applyReset_params rest, h.head, h.tail, h.vh, h.vt, h.npush, h.npop,
    h.prod, h.cons, rfl, rfl, h.queue_eq_nil, s.applyReset_sched rest⟩

/-- Settles O45: a cleared ring with legal parameters satisfies the invariant, and the parameters of `State.reset` are legal. -/
theorem resetSatisfiesTheRingInvariant : Obligations.ResetSatisfiesTheRingInvariant := by
  unfold Obligations.ResetSatisfiesTheRingInvariant
  have hinv (p : Params) (hp : p.wf = true) : (State.resetWith p).Inv := (State.ringCleared_resetWith p).inv hp
  have hdefault : Params.default.wf = true := by decide
  exact ⟨hinv, hinv Params.default hdefault⟩

end Sys2Proof.Machine
